-- ==== Sys2Proof/Word.lean ====
section
/-! DEFINITION. The two word types of the machine (00_scope.md R7, R10). -/

namespace Sys2Proof

/-- An 8-bit register, memory cell or immediate (R7). -/
abbrev Byte := BitVec 8

/-- A 16-bit register or bus address (R7). -/
abbrev Word := BitVec 16

end Sys2Proof
end

