-- ==== Sys2Proof/Syntax.lean ====
section
/-! DEFINITION. The instructions: the ONE inductive `Instr`, one constructor per row of spec/opcode_table.json,
and the operand fields its rows are laid out by (30_encoding.md R111-R120). -/

namespace Sys2Proof

/-- The 8-bit registers of a register field (30_encoding.md R112). -/
inductive Reg8 where
  | b | c | d | e | h | l | a
  deriving DecidableEq, Repr

/-- A register field with its value 6, the memory operand (HL) (R112). -/
inductive Opnd where
  | reg (r : Reg8)
  | mem
  deriving DecidableEq, Repr

/-- A pair field in LD rr,nn, ADD HL,rr, INC rr and DEC rr (R113). -/
inductive Pair where
  | bc | de | hl | sp
  deriving DecidableEq, Repr

/-- A pair field in PUSH and POP (R114). -/
inductive StackPair where
  | bc | de | hl | af
  deriving DecidableEq, Repr

/-- A condition field (R118). -/
inductive Cond where
  | nz | z | nc | c
  deriving DecidableEq, Repr

/-- An ALU field (R119). -/
inductive AluOp where
  | add | adc | sub | sbc | and | xor | or | cp
  deriving DecidableEq, Repr

/-- A rotate or shift field (R120). -/
inductive RotOp where
  | rlc | rrc | rl | rr | sla | sra | swap | srl
  deriving DecidableEq, Repr

/-- The instructions. An `m` before an operand's name is the memory operand in parentheses, `mhli` and
`mhld` are (HL+) and (HL-). Immediate bytes are arguments: `n` for n8, `e` for e8, `nn` for a 16-bit
immediate; the constructors with an argument stand first, since Lean's runtime has no tag above 244 for
them. `cb_prefix` is the row of the prefix byte 0xCB, which is no instruction of its own
(45_cpu_control.md R336; log 10). -/
inductive Instr where
  /-- 01 LD BC,d16 (R169). -/
  | ld_bc_d16 (nn : Word)
  /-- 06 LD B,d8 (R151). -/
  | ld_b_d8 (n : Byte)
  /-- 08 LD (a16),SP (R170). -/
  | ld_ma16_sp (nn : Word)
  /-- 0E LD C,d8 (R151). -/
  | ld_c_d8 (n : Byte)
  /-- 11 LD DE,d16 (R169). -/
  | ld_de_d16 (nn : Word)
  /-- 16 LD D,d8 (R151). -/
  | ld_d_d8 (n : Byte)
  /-- 18 JR e8 (R304). -/
  | jr_e8 (e : Byte)
  /-- 1E LD E,d8 (R151). -/
  | ld_e_d8 (n : Byte)
  /-- 20 JR NZ,e8 (R305). -/
  | jr_nz_e8 (e : Byte)
  /-- 21 LD HL,d16 (R169). -/
  | ld_hl_d16 (nn : Word)
  /-- 26 LD H,d8 (R151). -/
  | ld_h_d8 (n : Byte)
  /-- 28 JR Z,e8 (R305). -/
  | jr_z_e8 (e : Byte)
  /-- 2E LD L,d8 (R151). -/
  | ld_l_d8 (n : Byte)
  /-- 30 JR NC,e8 (R305). -/
  | jr_nc_e8 (e : Byte)
  /-- 31 LD SP,d16 (R169). -/
  | ld_sp_d16 (nn : Word)
  /-- 36 LD (HL),d8 (R154). -/
  | ld_mhl_d8 (n : Byte)
  /-- 38 JR C,e8 (R305). -/
  | jr_c_e8 (e : Byte)
  /-- 3E LD A,d8 (R151). -/
  | ld_a_d8 (n : Byte)
  /-- C2 JP NZ,a16 (R302). -/
  | jp_nz_a16 (nn : Word)
  /-- C3 JP a16 (R301). -/
  | jp_a16 (nn : Word)
  /-- C4 CALL NZ,a16 (R307). -/
  | call_nz_a16 (nn : Word)
  /-- C6 ADD A,d8 (R202). -/
  | add_a_d8 (n : Byte)
  /-- CA JP Z,a16 (R302). -/
  | jp_z_a16 (nn : Word)
  /-- CB (CB prefix) (R336). -/
  | cb_prefix (op2 : Byte)
  /-- CC CALL Z,a16 (R307). -/
  | call_z_a16 (nn : Word)
  /-- CD CALL a16 (R306). -/
  | call_a16 (nn : Word)
  /-- CE ADC A,d8 (R203). -/
  | adc_a_d8 (n : Byte)
  /-- D2 JP NC,a16 (R302). -/
  | jp_nc_a16 (nn : Word)
  /-- D4 CALL NC,a16 (R307). -/
  | call_nc_a16 (nn : Word)
  /-- D6 SUB d8 (R204). -/
  | sub_d8 (n : Byte)
  /-- DA JP C,a16 (R302). -/
  | jp_c_a16 (nn : Word)
  /-- DC CALL C,a16 (R307). -/
  | call_c_a16 (nn : Word)
  /-- DE SBC A,d8 (R205). -/
  | sbc_a_d8 (n : Byte)
  /-- E0 LDH (a8),A (R162). -/
  | ldh_ma8_a (n : Byte)
  /-- E6 AND d8 (R206). -/
  | and_d8 (n : Byte)
  /-- E8 ADD SP,e8 (R253). -/
  | add_sp_e8 (e : Byte)
  /-- EA LD (a16),A (R160). -/
  | ld_ma16_a (nn : Word)
  /-- EE XOR d8 (R207). -/
  | xor_d8 (n : Byte)
  /-- F0 LDH A,(a8) (R161). -/
  | ldh_a_ma8 (n : Byte)
  /-- F6 OR d8 (R208). -/
  | or_d8 (n : Byte)
  /-- F8 LD HL,SP+e8 (R254). -/
  | ld_hl_sp_e8 (e : Byte)
  /-- FA LD A,(a16) (R159). -/
  | ld_a_ma16 (nn : Word)
  /-- FE CP d8 (R209). -/
  | cp_d8 (n : Byte)
  /-- 00 NOP (R330). -/
  | nop
  /-- 02 LD (BC),A (R157). -/
  | ld_mbc_a
  /-- 03 INC BC (R251). -/
  | inc_bc
  /-- 04 INC B (R210). -/
  | inc_b
  /-- 05 DEC B (R212). -/
  | dec_b
  /-- 07 RLCA (R270). -/
  | rlca
  /-- 09 ADD HL,BC (R250). -/
  | add_hl_bc
  /-- 0A LD A,(BC) (R155). -/
  | ld_a_mbc
  /-- 0B DEC BC (R252). -/
  | dec_bc
  /-- 0C INC C (R210). -/
  | inc_c
  /-- 0D DEC C (R212). -/
  | dec_c
  /-- 0F RRCA (R271). -/
  | rrca
  /-- 10 STOP (R332). -/
  | stop
  /-- 12 LD (DE),A (R158). -/
  | ld_mde_a
  /-- 13 INC DE (R251). -/
  | inc_de
  /-- 14 INC D (R210). -/
  | inc_d
  /-- 15 DEC D (R212). -/
  | dec_d
  /-- 17 RLA (R272). -/
  | rla
  /-- 19 ADD HL,DE (R250). -/
  | add_hl_de
  /-- 1A LD A,(DE) (R156). -/
  | ld_a_mde
  /-- 1B DEC DE (R252). -/
  | dec_de
  /-- 1C INC E (R210). -/
  | inc_e
  /-- 1D DEC E (R212). -/
  | dec_e
  /-- 1F RRA (R273). -/
  | rra
  /-- 22 LD (HL+),A (R165). -/
  | ld_mhli_a
  /-- 23 INC HL (R251). -/
  | inc_hl
  /-- 24 INC H (R210). -/
  | inc_h
  /-- 25 DEC H (R212). -/
  | dec_h
  /-- 27 DAA (R224). -/
  | daa
  /-- 29 ADD HL,HL (R250). -/
  | add_hl_hl
  /-- 2A LD A,(HL+) (R166). -/
  | ld_a_mhli
  /-- 2B DEC HL (R252). -/
  | dec_hl
  /-- 2C INC L (R210). -/
  | inc_l
  /-- 2D DEC L (R212). -/
  | dec_l
  /-- 2F CPL (R220). -/
  | cpl
  /-- 32 LD (HL-),A (R167). -/
  | ld_mhld_a
  /-- 33 INC SP (R251). -/
  | inc_sp
  /-- 34 INC (HL) (R211). -/
  | inc_mhl
  /-- 35 DEC (HL) (R213). -/
  | dec_mhl
  /-- 37 SCF (R221). -/
  | scf
  /-- 39 ADD HL,SP (R250). -/
  | add_hl_sp
  /-- 3A LD A,(HL-) (R168). -/
  | ld_a_mhld
  /-- 3B DEC SP (R252). -/
  | dec_sp
  /-- 3C INC A (R210). -/
  | inc_a
  /-- 3D DEC A (R212). -/
  | dec_a
  /-- 3F CCF (R222). -/
  | ccf
  /-- 40 LD B,B (R150). -/
  | ld_b_b
  /-- 41 LD B,C (R150). -/
  | ld_b_c
  /-- 42 LD B,D (R150). -/
  | ld_b_d
  /-- 43 LD B,E (R150). -/
  | ld_b_e
  /-- 44 LD B,H (R150). -/
  | ld_b_h
  /-- 45 LD B,L (R150). -/
  | ld_b_l
  /-- 46 LD B,(HL) (R152). -/
  | ld_b_mhl
  /-- 47 LD B,A (R150). -/
  | ld_b_a
  /-- 48 LD C,B (R150). -/
  | ld_c_b
  /-- 49 LD C,C (R150). -/
  | ld_c_c
  /-- 4A LD C,D (R150). -/
  | ld_c_d
  /-- 4B LD C,E (R150). -/
  | ld_c_e
  /-- 4C LD C,H (R150). -/
  | ld_c_h
  /-- 4D LD C,L (R150). -/
  | ld_c_l
  /-- 4E LD C,(HL) (R152). -/
  | ld_c_mhl
  /-- 4F LD C,A (R150). -/
  | ld_c_a
  /-- 50 LD D,B (R150). -/
  | ld_d_b
  /-- 51 LD D,C (R150). -/
  | ld_d_c
  /-- 52 LD D,D (R150). -/
  | ld_d_d
  /-- 53 LD D,E (R150). -/
  | ld_d_e
  /-- 54 LD D,H (R150). -/
  | ld_d_h
  /-- 55 LD D,L (R150). -/
  | ld_d_l
  /-- 56 LD D,(HL) (R152). -/
  | ld_d_mhl
  /-- 57 LD D,A (R150). -/
  | ld_d_a
  /-- 58 LD E,B (R150). -/
  | ld_e_b
  /-- 59 LD E,C (R150). -/
  | ld_e_c
  /-- 5A LD E,D (R150). -/
  | ld_e_d
  /-- 5B LD E,E (R150). -/
  | ld_e_e
  /-- 5C LD E,H (R150). -/
  | ld_e_h
  /-- 5D LD E,L (R150). -/
  | ld_e_l
  /-- 5E LD E,(HL) (R152). -/
  | ld_e_mhl
  /-- 5F LD E,A (R150). -/
  | ld_e_a
  /-- 60 LD H,B (R150). -/
  | ld_h_b
  /-- 61 LD H,C (R150). -/
  | ld_h_c
  /-- 62 LD H,D (R150). -/
  | ld_h_d
  /-- 63 LD H,E (R150). -/
  | ld_h_e
  /-- 64 LD H,H (R150). -/
  | ld_h_h
  /-- 65 LD H,L (R150). -/
  | ld_h_l
  /-- 66 LD H,(HL) (R152). -/
  | ld_h_mhl
  /-- 67 LD H,A (R150). -/
  | ld_h_a
  /-- 68 LD L,B (R150). -/
  | ld_l_b
  /-- 69 LD L,C (R150). -/
  | ld_l_c
  /-- 6A LD L,D (R150). -/
  | ld_l_d
  /-- 6B LD L,E (R150). -/
  | ld_l_e
  /-- 6C LD L,H (R150). -/
  | ld_l_h
  /-- 6D LD L,L (R150). -/
  | ld_l_l
  /-- 6E LD L,(HL) (R152). -/
  | ld_l_mhl
  /-- 6F LD L,A (R150). -/
  | ld_l_a
  /-- 70 LD (HL),B (R153). -/
  | ld_mhl_b
  /-- 71 LD (HL),C (R153). -/
  | ld_mhl_c
  /-- 72 LD (HL),D (R153). -/
  | ld_mhl_d
  /-- 73 LD (HL),E (R153). -/
  | ld_mhl_e
  /-- 74 LD (HL),H (R153). -/
  | ld_mhl_h
  /-- 75 LD (HL),L (R153). -/
  | ld_mhl_l
  /-- 76 HALT (R331). -/
  | halt
  /-- 77 LD (HL),A (R153). -/
  | ld_mhl_a
  /-- 78 LD A,B (R150). -/
  | ld_a_b
  /-- 79 LD A,C (R150). -/
  | ld_a_c
  /-- 7A LD A,D (R150). -/
  | ld_a_d
  /-- 7B LD A,E (R150). -/
  | ld_a_e
  /-- 7C LD A,H (R150). -/
  | ld_a_h
  /-- 7D LD A,L (R150). -/
  | ld_a_l
  /-- 7E LD A,(HL) (R152). -/
  | ld_a_mhl
  /-- 7F LD A,A (R150). -/
  | ld_a_a
  /-- 80 ADD A,B (R202). -/
  | add_a_b
  /-- 81 ADD A,C (R202). -/
  | add_a_c
  /-- 82 ADD A,D (R202). -/
  | add_a_d
  /-- 83 ADD A,E (R202). -/
  | add_a_e
  /-- 84 ADD A,H (R202). -/
  | add_a_h
  /-- 85 ADD A,L (R202). -/
  | add_a_l
  /-- 86 ADD A,(HL) (R202). -/
  | add_a_mhl
  /-- 87 ADD A,A (R202). -/
  | add_a_a
  /-- 88 ADC A,B (R203). -/
  | adc_a_b
  /-- 89 ADC A,C (R203). -/
  | adc_a_c
  /-- 8A ADC A,D (R203). -/
  | adc_a_d
  /-- 8B ADC A,E (R203). -/
  | adc_a_e
  /-- 8C ADC A,H (R203). -/
  | adc_a_h
  /-- 8D ADC A,L (R203). -/
  | adc_a_l
  /-- 8E ADC A,(HL) (R203). -/
  | adc_a_mhl
  /-- 8F ADC A,A (R203). -/
  | adc_a_a
  /-- 90 SUB B (R204). -/
  | sub_b
  /-- 91 SUB C (R204). -/
  | sub_c
  /-- 92 SUB D (R204). -/
  | sub_d
  /-- 93 SUB E (R204). -/
  | sub_e
  /-- 94 SUB H (R204). -/
  | sub_h
  /-- 95 SUB L (R204). -/
  | sub_l
  /-- 96 SUB (HL) (R204). -/
  | sub_mhl
  /-- 97 SUB A (R204). -/
  | sub_a
  /-- 98 SBC A,B (R205). -/
  | sbc_a_b
  /-- 99 SBC A,C (R205). -/
  | sbc_a_c
  /-- 9A SBC A,D (R205). -/
  | sbc_a_d
  /-- 9B SBC A,E (R205). -/
  | sbc_a_e
  /-- 9C SBC A,H (R205). -/
  | sbc_a_h
  /-- 9D SBC A,L (R205). -/
  | sbc_a_l
  /-- 9E SBC A,(HL) (R205). -/
  | sbc_a_mhl
  /-- 9F SBC A,A (R205). -/
  | sbc_a_a
  /-- A0 AND B (R206). -/
  | and_b
  /-- A1 AND C (R206). -/
  | and_c
  /-- A2 AND D (R206). -/
  | and_d
  /-- A3 AND E (R206). -/
  | and_e
  /-- A4 AND H (R206). -/
  | and_h
  /-- A5 AND L (R206). -/
  | and_l
  /-- A6 AND (HL) (R206). -/
  | and_mhl
  /-- A7 AND A (R206). -/
  | and_a
  /-- A8 XOR B (R207). -/
  | xor_b
  /-- A9 XOR C (R207). -/
  | xor_c
  /-- AA XOR D (R207). -/
  | xor_d
  /-- AB XOR E (R207). -/
  | xor_e
  /-- AC XOR H (R207). -/
  | xor_h
  /-- AD XOR L (R207). -/
  | xor_l
  /-- AE XOR (HL) (R207). -/
  | xor_mhl
  /-- AF XOR A (R207). -/
  | xor_a
  /-- B0 OR B (R208). -/
  | or_b
  /-- B1 OR C (R208). -/
  | or_c
  /-- B2 OR D (R208). -/
  | or_d
  /-- B3 OR E (R208). -/
  | or_e
  /-- B4 OR H (R208). -/
  | or_h
  /-- B5 OR L (R208). -/
  | or_l
  /-- B6 OR (HL) (R208). -/
  | or_mhl
  /-- B7 OR A (R208). -/
  | or_a
  /-- B8 CP B (R209). -/
  | cp_b
  /-- B9 CP C (R209). -/
  | cp_c
  /-- BA CP D (R209). -/
  | cp_d
  /-- BB CP E (R209). -/
  | cp_e
  /-- BC CP H (R209). -/
  | cp_h
  /-- BD CP L (R209). -/
  | cp_l
  /-- BE CP (HL) (R209). -/
  | cp_mhl
  /-- BF CP A (R209). -/
  | cp_a
  /-- C0 RET NZ (R309). -/
  | ret_nz
  /-- C1 POP BC (R172). -/
  | pop_bc
  /-- C5 PUSH BC (R173). -/
  | push_bc
  /-- C7 RST 00H (R312). -/
  | rst_00
  /-- C8 RET Z (R309). -/
  | ret_z
  /-- C9 RET (R308). -/
  | ret
  /-- CF RST 08H (R312). -/
  | rst_08
  /-- D0 RET NC (R309). -/
  | ret_nc
  /-- D1 POP DE (R172). -/
  | pop_de
  /-- D3 ILLEGAL 0xD3 (R335). -/
  | illegal_d3
  /-- D5 PUSH DE (R173). -/
  | push_de
  /-- D7 RST 10H (R312). -/
  | rst_10
  /-- D8 RET C (R309). -/
  | ret_c
  /-- D9 RETI (R311). -/
  | reti
  /-- DB ILLEGAL 0xDB (R335). -/
  | illegal_db
  /-- DD ILLEGAL 0xDD (R335). -/
  | illegal_dd
  /-- DF RST 18H (R312). -/
  | rst_18
  /-- E1 POP HL (R172). -/
  | pop_hl
  /-- E2 LD (C),A (R164). -/
  | ld_mc_a
  /-- E3 ILLEGAL 0xE3 (R335). -/
  | illegal_e3
  /-- E4 ILLEGAL 0xE4 (R335). -/
  | illegal_e4
  /-- E5 PUSH HL (R173). -/
  | push_hl
  /-- E7 RST 20H (R312). -/
  | rst_20
  /-- E9 JP (HL) (R303). -/
  | jp_hl
  /-- EB ILLEGAL 0xEB (R335). -/
  | illegal_eb
  /-- EC ILLEGAL 0xEC (R335). -/
  | illegal_ec
  /-- ED ILLEGAL 0xED (R335). -/
  | illegal_ed
  /-- EF RST 28H (R312). -/
  | rst_28
  /-- F1 POP AF (R172). -/
  | pop_af
  /-- F2 LD A,(C) (R163). -/
  | ld_a_mc
  /-- F3 DI (R333). -/
  | di
  /-- F4 ILLEGAL 0xF4 (R335). -/
  | illegal_f4
  /-- F5 PUSH AF (R173). -/
  | push_af
  /-- F7 RST 30H (R312). -/
  | rst_30
  /-- F9 LD SP,HL (R171). -/
  | ld_sp_hl
  /-- FB EI (R334). -/
  | ei
  /-- FC ILLEGAL 0xFC (R335). -/
  | illegal_fc
  /-- FD ILLEGAL 0xFD (R335). -/
  | illegal_fd
  /-- FF RST 38H (R312). -/
  | rst_38
  /-- CB 00 RLC B (R275). -/
  | rlc_b
  /-- CB 01 RLC C (R275). -/
  | rlc_c
  /-- CB 02 RLC D (R275). -/
  | rlc_d
  /-- CB 03 RLC E (R275). -/
  | rlc_e
  /-- CB 04 RLC H (R275). -/
  | rlc_h
  /-- CB 05 RLC L (R275). -/
  | rlc_l
  /-- CB 06 RLC (HL) (R275). -/
  | rlc_mhl
  /-- CB 07 RLC A (R275). -/
  | rlc_a
  /-- CB 08 RRC B (R276). -/
  | rrc_b
  /-- CB 09 RRC C (R276). -/
  | rrc_c
  /-- CB 0A RRC D (R276). -/
  | rrc_d
  /-- CB 0B RRC E (R276). -/
  | rrc_e
  /-- CB 0C RRC H (R276). -/
  | rrc_h
  /-- CB 0D RRC L (R276). -/
  | rrc_l
  /-- CB 0E RRC (HL) (R276). -/
  | rrc_mhl
  /-- CB 0F RRC A (R276). -/
  | rrc_a
  /-- CB 10 RL B (R277). -/
  | rl_b
  /-- CB 11 RL C (R277). -/
  | rl_c
  /-- CB 12 RL D (R277). -/
  | rl_d
  /-- CB 13 RL E (R277). -/
  | rl_e
  /-- CB 14 RL H (R277). -/
  | rl_h
  /-- CB 15 RL L (R277). -/
  | rl_l
  /-- CB 16 RL (HL) (R277). -/
  | rl_mhl
  /-- CB 17 RL A (R277). -/
  | rl_a
  /-- CB 18 RR B (R278). -/
  | rr_b
  /-- CB 19 RR C (R278). -/
  | rr_c
  /-- CB 1A RR D (R278). -/
  | rr_d
  /-- CB 1B RR E (R278). -/
  | rr_e
  /-- CB 1C RR H (R278). -/
  | rr_h
  /-- CB 1D RR L (R278). -/
  | rr_l
  /-- CB 1E RR (HL) (R278). -/
  | rr_mhl
  /-- CB 1F RR A (R278). -/
  | rr_a
  /-- CB 20 SLA B (R279). -/
  | sla_b
  /-- CB 21 SLA C (R279). -/
  | sla_c
  /-- CB 22 SLA D (R279). -/
  | sla_d
  /-- CB 23 SLA E (R279). -/
  | sla_e
  /-- CB 24 SLA H (R279). -/
  | sla_h
  /-- CB 25 SLA L (R279). -/
  | sla_l
  /-- CB 26 SLA (HL) (R279). -/
  | sla_mhl
  /-- CB 27 SLA A (R279). -/
  | sla_a
  /-- CB 28 SRA B (R280). -/
  | sra_b
  /-- CB 29 SRA C (R280). -/
  | sra_c
  /-- CB 2A SRA D (R280). -/
  | sra_d
  /-- CB 2B SRA E (R280). -/
  | sra_e
  /-- CB 2C SRA H (R280). -/
  | sra_h
  /-- CB 2D SRA L (R280). -/
  | sra_l
  /-- CB 2E SRA (HL) (R280). -/
  | sra_mhl
  /-- CB 2F SRA A (R280). -/
  | sra_a
  /-- CB 30 SWAP B (R281). -/
  | swap_b
  /-- CB 31 SWAP C (R281). -/
  | swap_c
  /-- CB 32 SWAP D (R281). -/
  | swap_d
  /-- CB 33 SWAP E (R281). -/
  | swap_e
  /-- CB 34 SWAP H (R281). -/
  | swap_h
  /-- CB 35 SWAP L (R281). -/
  | swap_l
  /-- CB 36 SWAP (HL) (R281). -/
  | swap_mhl
  /-- CB 37 SWAP A (R281). -/
  | swap_a
  /-- CB 38 SRL B (R282). -/
  | srl_b
  /-- CB 39 SRL C (R282). -/
  | srl_c
  /-- CB 3A SRL D (R282). -/
  | srl_d
  /-- CB 3B SRL E (R282). -/
  | srl_e
  /-- CB 3C SRL H (R282). -/
  | srl_h
  /-- CB 3D SRL L (R282). -/
  | srl_l
  /-- CB 3E SRL (HL) (R282). -/
  | srl_mhl
  /-- CB 3F SRL A (R282). -/
  | srl_a
  /-- CB 40 BIT 0,B (R283). -/
  | bit_0_b
  /-- CB 41 BIT 0,C (R283). -/
  | bit_0_c
  /-- CB 42 BIT 0,D (R283). -/
  | bit_0_d
  /-- CB 43 BIT 0,E (R283). -/
  | bit_0_e
  /-- CB 44 BIT 0,H (R283). -/
  | bit_0_h
  /-- CB 45 BIT 0,L (R283). -/
  | bit_0_l
  /-- CB 46 BIT 0,(HL) (R283). -/
  | bit_0_mhl
  /-- CB 47 BIT 0,A (R283). -/
  | bit_0_a
  /-- CB 48 BIT 1,B (R283). -/
  | bit_1_b
  /-- CB 49 BIT 1,C (R283). -/
  | bit_1_c
  /-- CB 4A BIT 1,D (R283). -/
  | bit_1_d
  /-- CB 4B BIT 1,E (R283). -/
  | bit_1_e
  /-- CB 4C BIT 1,H (R283). -/
  | bit_1_h
  /-- CB 4D BIT 1,L (R283). -/
  | bit_1_l
  /-- CB 4E BIT 1,(HL) (R283). -/
  | bit_1_mhl
  /-- CB 4F BIT 1,A (R283). -/
  | bit_1_a
  /-- CB 50 BIT 2,B (R283). -/
  | bit_2_b
  /-- CB 51 BIT 2,C (R283). -/
  | bit_2_c
  /-- CB 52 BIT 2,D (R283). -/
  | bit_2_d
  /-- CB 53 BIT 2,E (R283). -/
  | bit_2_e
  /-- CB 54 BIT 2,H (R283). -/
  | bit_2_h
  /-- CB 55 BIT 2,L (R283). -/
  | bit_2_l
  /-- CB 56 BIT 2,(HL) (R283). -/
  | bit_2_mhl
  /-- CB 57 BIT 2,A (R283). -/
  | bit_2_a
  /-- CB 58 BIT 3,B (R283). -/
  | bit_3_b
  /-- CB 59 BIT 3,C (R283). -/
  | bit_3_c
  /-- CB 5A BIT 3,D (R283). -/
  | bit_3_d
  /-- CB 5B BIT 3,E (R283). -/
  | bit_3_e
  /-- CB 5C BIT 3,H (R283). -/
  | bit_3_h
  /-- CB 5D BIT 3,L (R283). -/
  | bit_3_l
  /-- CB 5E BIT 3,(HL) (R283). -/
  | bit_3_mhl
  /-- CB 5F BIT 3,A (R283). -/
  | bit_3_a
  /-- CB 60 BIT 4,B (R283). -/
  | bit_4_b
  /-- CB 61 BIT 4,C (R283). -/
  | bit_4_c
  /-- CB 62 BIT 4,D (R283). -/
  | bit_4_d
  /-- CB 63 BIT 4,E (R283). -/
  | bit_4_e
  /-- CB 64 BIT 4,H (R283). -/
  | bit_4_h
  /-- CB 65 BIT 4,L (R283). -/
  | bit_4_l
  /-- CB 66 BIT 4,(HL) (R283). -/
  | bit_4_mhl
  /-- CB 67 BIT 4,A (R283). -/
  | bit_4_a
  /-- CB 68 BIT 5,B (R283). -/
  | bit_5_b
  /-- CB 69 BIT 5,C (R283). -/
  | bit_5_c
  /-- CB 6A BIT 5,D (R283). -/
  | bit_5_d
  /-- CB 6B BIT 5,E (R283). -/
  | bit_5_e
  /-- CB 6C BIT 5,H (R283). -/
  | bit_5_h
  /-- CB 6D BIT 5,L (R283). -/
  | bit_5_l
  /-- CB 6E BIT 5,(HL) (R283). -/
  | bit_5_mhl
  /-- CB 6F BIT 5,A (R283). -/
  | bit_5_a
  /-- CB 70 BIT 6,B (R283). -/
  | bit_6_b
  /-- CB 71 BIT 6,C (R283). -/
  | bit_6_c
  /-- CB 72 BIT 6,D (R283). -/
  | bit_6_d
  /-- CB 73 BIT 6,E (R283). -/
  | bit_6_e
  /-- CB 74 BIT 6,H (R283). -/
  | bit_6_h
  /-- CB 75 BIT 6,L (R283). -/
  | bit_6_l
  /-- CB 76 BIT 6,(HL) (R283). -/
  | bit_6_mhl
  /-- CB 77 BIT 6,A (R283). -/
  | bit_6_a
  /-- CB 78 BIT 7,B (R283). -/
  | bit_7_b
  /-- CB 79 BIT 7,C (R283). -/
  | bit_7_c
  /-- CB 7A BIT 7,D (R283). -/
  | bit_7_d
  /-- CB 7B BIT 7,E (R283). -/
  | bit_7_e
  /-- CB 7C BIT 7,H (R283). -/
  | bit_7_h
  /-- CB 7D BIT 7,L (R283). -/
  | bit_7_l
  /-- CB 7E BIT 7,(HL) (R283). -/
  | bit_7_mhl
  /-- CB 7F BIT 7,A (R283). -/
  | bit_7_a
  /-- CB 80 RES 0,B (R284). -/
  | res_0_b
  /-- CB 81 RES 0,C (R284). -/
  | res_0_c
  /-- CB 82 RES 0,D (R284). -/
  | res_0_d
  /-- CB 83 RES 0,E (R284). -/
  | res_0_e
  /-- CB 84 RES 0,H (R284). -/
  | res_0_h
  /-- CB 85 RES 0,L (R284). -/
  | res_0_l
  /-- CB 86 RES 0,(HL) (R284). -/
  | res_0_mhl
  /-- CB 87 RES 0,A (R284). -/
  | res_0_a
  /-- CB 88 RES 1,B (R284). -/
  | res_1_b
  /-- CB 89 RES 1,C (R284). -/
  | res_1_c
  /-- CB 8A RES 1,D (R284). -/
  | res_1_d
  /-- CB 8B RES 1,E (R284). -/
  | res_1_e
  /-- CB 8C RES 1,H (R284). -/
  | res_1_h
  /-- CB 8D RES 1,L (R284). -/
  | res_1_l
  /-- CB 8E RES 1,(HL) (R284). -/
  | res_1_mhl
  /-- CB 8F RES 1,A (R284). -/
  | res_1_a
  /-- CB 90 RES 2,B (R284). -/
  | res_2_b
  /-- CB 91 RES 2,C (R284). -/
  | res_2_c
  /-- CB 92 RES 2,D (R284). -/
  | res_2_d
  /-- CB 93 RES 2,E (R284). -/
  | res_2_e
  /-- CB 94 RES 2,H (R284). -/
  | res_2_h
  /-- CB 95 RES 2,L (R284). -/
  | res_2_l
  /-- CB 96 RES 2,(HL) (R284). -/
  | res_2_mhl
  /-- CB 97 RES 2,A (R284). -/
  | res_2_a
  /-- CB 98 RES 3,B (R284). -/
  | res_3_b
  /-- CB 99 RES 3,C (R284). -/
  | res_3_c
  /-- CB 9A RES 3,D (R284). -/
  | res_3_d
  /-- CB 9B RES 3,E (R284). -/
  | res_3_e
  /-- CB 9C RES 3,H (R284). -/
  | res_3_h
  /-- CB 9D RES 3,L (R284). -/
  | res_3_l
  /-- CB 9E RES 3,(HL) (R284). -/
  | res_3_mhl
  /-- CB 9F RES 3,A (R284). -/
  | res_3_a
  /-- CB A0 RES 4,B (R284). -/
  | res_4_b
  /-- CB A1 RES 4,C (R284). -/
  | res_4_c
  /-- CB A2 RES 4,D (R284). -/
  | res_4_d
  /-- CB A3 RES 4,E (R284). -/
  | res_4_e
  /-- CB A4 RES 4,H (R284). -/
  | res_4_h
  /-- CB A5 RES 4,L (R284). -/
  | res_4_l
  /-- CB A6 RES 4,(HL) (R284). -/
  | res_4_mhl
  /-- CB A7 RES 4,A (R284). -/
  | res_4_a
  /-- CB A8 RES 5,B (R284). -/
  | res_5_b
  /-- CB A9 RES 5,C (R284). -/
  | res_5_c
  /-- CB AA RES 5,D (R284). -/
  | res_5_d
  /-- CB AB RES 5,E (R284). -/
  | res_5_e
  /-- CB AC RES 5,H (R284). -/
  | res_5_h
  /-- CB AD RES 5,L (R284). -/
  | res_5_l
  /-- CB AE RES 5,(HL) (R284). -/
  | res_5_mhl
  /-- CB AF RES 5,A (R284). -/
  | res_5_a
  /-- CB B0 RES 6,B (R284). -/
  | res_6_b
  /-- CB B1 RES 6,C (R284). -/
  | res_6_c
  /-- CB B2 RES 6,D (R284). -/
  | res_6_d
  /-- CB B3 RES 6,E (R284). -/
  | res_6_e
  /-- CB B4 RES 6,H (R284). -/
  | res_6_h
  /-- CB B5 RES 6,L (R284). -/
  | res_6_l
  /-- CB B6 RES 6,(HL) (R284). -/
  | res_6_mhl
  /-- CB B7 RES 6,A (R284). -/
  | res_6_a
  /-- CB B8 RES 7,B (R284). -/
  | res_7_b
  /-- CB B9 RES 7,C (R284). -/
  | res_7_c
  /-- CB BA RES 7,D (R284). -/
  | res_7_d
  /-- CB BB RES 7,E (R284). -/
  | res_7_e
  /-- CB BC RES 7,H (R284). -/
  | res_7_h
  /-- CB BD RES 7,L (R284). -/
  | res_7_l
  /-- CB BE RES 7,(HL) (R284). -/
  | res_7_mhl
  /-- CB BF RES 7,A (R284). -/
  | res_7_a
  /-- CB C0 SET 0,B (R285). -/
  | set_0_b
  /-- CB C1 SET 0,C (R285). -/
  | set_0_c
  /-- CB C2 SET 0,D (R285). -/
  | set_0_d
  /-- CB C3 SET 0,E (R285). -/
  | set_0_e
  /-- CB C4 SET 0,H (R285). -/
  | set_0_h
  /-- CB C5 SET 0,L (R285). -/
  | set_0_l
  /-- CB C6 SET 0,(HL) (R285). -/
  | set_0_mhl
  /-- CB C7 SET 0,A (R285). -/
  | set_0_a
  /-- CB C8 SET 1,B (R285). -/
  | set_1_b
  /-- CB C9 SET 1,C (R285). -/
  | set_1_c
  /-- CB CA SET 1,D (R285). -/
  | set_1_d
  /-- CB CB SET 1,E (R285). -/
  | set_1_e
  /-- CB CC SET 1,H (R285). -/
  | set_1_h
  /-- CB CD SET 1,L (R285). -/
  | set_1_l
  /-- CB CE SET 1,(HL) (R285). -/
  | set_1_mhl
  /-- CB CF SET 1,A (R285). -/
  | set_1_a
  /-- CB D0 SET 2,B (R285). -/
  | set_2_b
  /-- CB D1 SET 2,C (R285). -/
  | set_2_c
  /-- CB D2 SET 2,D (R285). -/
  | set_2_d
  /-- CB D3 SET 2,E (R285). -/
  | set_2_e
  /-- CB D4 SET 2,H (R285). -/
  | set_2_h
  /-- CB D5 SET 2,L (R285). -/
  | set_2_l
  /-- CB D6 SET 2,(HL) (R285). -/
  | set_2_mhl
  /-- CB D7 SET 2,A (R285). -/
  | set_2_a
  /-- CB D8 SET 3,B (R285). -/
  | set_3_b
  /-- CB D9 SET 3,C (R285). -/
  | set_3_c
  /-- CB DA SET 3,D (R285). -/
  | set_3_d
  /-- CB DB SET 3,E (R285). -/
  | set_3_e
  /-- CB DC SET 3,H (R285). -/
  | set_3_h
  /-- CB DD SET 3,L (R285). -/
  | set_3_l
  /-- CB DE SET 3,(HL) (R285). -/
  | set_3_mhl
  /-- CB DF SET 3,A (R285). -/
  | set_3_a
  /-- CB E0 SET 4,B (R285). -/
  | set_4_b
  /-- CB E1 SET 4,C (R285). -/
  | set_4_c
  /-- CB E2 SET 4,D (R285). -/
  | set_4_d
  /-- CB E3 SET 4,E (R285). -/
  | set_4_e
  /-- CB E4 SET 4,H (R285). -/
  | set_4_h
  /-- CB E5 SET 4,L (R285). -/
  | set_4_l
  /-- CB E6 SET 4,(HL) (R285). -/
  | set_4_mhl
  /-- CB E7 SET 4,A (R285). -/
  | set_4_a
  /-- CB E8 SET 5,B (R285). -/
  | set_5_b
  /-- CB E9 SET 5,C (R285). -/
  | set_5_c
  /-- CB EA SET 5,D (R285). -/
  | set_5_d
  /-- CB EB SET 5,E (R285). -/
  | set_5_e
  /-- CB EC SET 5,H (R285). -/
  | set_5_h
  /-- CB ED SET 5,L (R285). -/
  | set_5_l
  /-- CB EE SET 5,(HL) (R285). -/
  | set_5_mhl
  /-- CB EF SET 5,A (R285). -/
  | set_5_a
  /-- CB F0 SET 6,B (R285). -/
  | set_6_b
  /-- CB F1 SET 6,C (R285). -/
  | set_6_c
  /-- CB F2 SET 6,D (R285). -/
  | set_6_d
  /-- CB F3 SET 6,E (R285). -/
  | set_6_e
  /-- CB F4 SET 6,H (R285). -/
  | set_6_h
  /-- CB F5 SET 6,L (R285). -/
  | set_6_l
  /-- CB F6 SET 6,(HL) (R285). -/
  | set_6_mhl
  /-- CB F7 SET 6,A (R285). -/
  | set_6_a
  /-- CB F8 SET 7,B (R285). -/
  | set_7_b
  /-- CB F9 SET 7,C (R285). -/
  | set_7_c
  /-- CB FA SET 7,D (R285). -/
  | set_7_d
  /-- CB FB SET 7,E (R285). -/
  | set_7_e
  /-- CB FC SET 7,H (R285). -/
  | set_7_h
  /-- CB FD SET 7,L (R285). -/
  | set_7_l
  /-- CB FE SET 7,(HL) (R285). -/
  | set_7_mhl
  /-- CB FF SET 7,A (R285). -/
  | set_7_a
  deriving DecidableEq, Repr

end Sys2Proof
end

