-- ==== Sys2Proof/WellFormed.lean ====
section
/-! DEFINITION. Which terms of `Instr` are whole instructions. Every operand field is a bit vector of its
encoded width, so the one thing left to check is that the term is not the bare prefix. -/

namespace Sys2Proof

/-- The term of the 0xCB row, "not an instruction of its own" (45_cpu_control.md R336). -/
def Instr.isPrefix : Instr → Bool
  | .cb_prefix _ => true
  | _ => false

/-- A whole instruction. -/
def Instr.wellFormed (i : Instr) : Bool := !i.isPrefix

end Sys2Proof
end

