-- ==== Sys2Proof/Decode.lean ====
section
/-! DEFINITION. Decoding, total on any bytes and rejecting by name, and the encoder (30_encoding.md). The
primary and the CB table are written row by row as the maps of R123 and R127 print them. -/

namespace Sys2Proof

/-- `hi:lo` (00_scope.md R10). -/
def wordOf (lo hi : Byte) : Word := hi ++ lo
/-- The low byte of a word. -/
def loByte (w : Word) : Byte := w.extractLsb' 0 8
/-- The high byte of a word. -/
def hiByte (w : Word) : Byte := w.extractLsb' 8 8

/-- Why bytes are no instruction. -/
inductive DecodeError where
  /-- No byte at all. -/
  | noByte
  /-- 0xCB with no sub-opcode byte after it. -/
  | missingSubOpcode
  /-- A sub-opcode the CB table has no row for: no byte reaches this (30_encoding.md R129). -/
  | unknownSubOpcode (op2 : Byte)
  /-- An opcode whose immediate bytes are missing. -/
  | missingImmediate (op : Byte)
  deriving DecidableEq, Repr

/-- The opcodes of formats F2, F4 and FCB (R110). -/
def twoByteOpcodes : List Nat :=
  [0x06, 0x0E, 0x16, 0x18, 0x1E, 0x20, 0x26, 0x28, 0x2E, 0x30, 0x36, 0x38, 0x3E,
   0xC6, 0xCB, 0xCE, 0xD6, 0xDE, 0xE0, 0xE6, 0xE8, 0xEE, 0xF0, 0xF6, 0xF8, 0xFE]

/-- The opcodes of format F3 (R110). -/
def threeByteOpcodes : List Nat :=
  [0x01, 0x08, 0x11, 0x21, 0x31, 0xC2, 0xC3, 0xC4, 0xCA, 0xCC, 0xCD, 0xD2, 0xD4,
   0xDA, 0xDC, 0xEA, 0xFA]

/-- The length of an instruction in bytes, fixed by its first byte (R110, R132). -/
def instrLength (op : Byte) : Nat :=
  if op.toNat ∈ threeByteOpcodes then 3 else if op.toNat ∈ twoByteOpcodes then 2 else 1

/-- Row 0x of the primary map (R123): the cell `lo`, with the bytes after the opcode. -/
def primaryRow0 (lo : Nat) (n n2 : Byte) : Instr :=
  match lo with
  | 0x0 => .nop
  | 0x1 => .ld_bc_d16 (wordOf n n2)
  | 0x2 => .ld_mbc_a
  | 0x3 => .inc_bc
  | 0x4 => .inc_b
  | 0x5 => .dec_b
  | 0x6 => .ld_b_d8 n
  | 0x7 => .rlca
  | 0x8 => .ld_ma16_sp (wordOf n n2)
  | 0x9 => .add_hl_bc
  | 0xA => .ld_a_mbc
  | 0xB => .dec_bc
  | 0xC => .inc_c
  | 0xD => .dec_c
  | 0xE => .ld_c_d8 n
  | _ => .rrca

/-- Row 1x of the primary map (R123): the cell `lo`, with the bytes after the opcode. -/
def primaryRow1 (lo : Nat) (n n2 : Byte) : Instr :=
  match lo with
  | 0x0 => .stop
  | 0x1 => .ld_de_d16 (wordOf n n2)
  | 0x2 => .ld_mde_a
  | 0x3 => .inc_de
  | 0x4 => .inc_d
  | 0x5 => .dec_d
  | 0x6 => .ld_d_d8 n
  | 0x7 => .rla
  | 0x8 => .jr_e8 n
  | 0x9 => .add_hl_de
  | 0xA => .ld_a_mde
  | 0xB => .dec_de
  | 0xC => .inc_e
  | 0xD => .dec_e
  | 0xE => .ld_e_d8 n
  | _ => .rra

/-- Row 2x of the primary map (R123): the cell `lo`, with the bytes after the opcode. -/
def primaryRow2 (lo : Nat) (n n2 : Byte) : Instr :=
  match lo with
  | 0x0 => .jr_nz_e8 n
  | 0x1 => .ld_hl_d16 (wordOf n n2)
  | 0x2 => .ld_mhli_a
  | 0x3 => .inc_hl
  | 0x4 => .inc_h
  | 0x5 => .dec_h
  | 0x6 => .ld_h_d8 n
  | 0x7 => .daa
  | 0x8 => .jr_z_e8 n
  | 0x9 => .add_hl_hl
  | 0xA => .ld_a_mhli
  | 0xB => .dec_hl
  | 0xC => .inc_l
  | 0xD => .dec_l
  | 0xE => .ld_l_d8 n
  | _ => .cpl

/-- Row 3x of the primary map (R123): the cell `lo`, with the bytes after the opcode. -/
def primaryRow3 (lo : Nat) (n n2 : Byte) : Instr :=
  match lo with
  | 0x0 => .jr_nc_e8 n
  | 0x1 => .ld_sp_d16 (wordOf n n2)
  | 0x2 => .ld_mhld_a
  | 0x3 => .inc_sp
  | 0x4 => .inc_mhl
  | 0x5 => .dec_mhl
  | 0x6 => .ld_mhl_d8 n
  | 0x7 => .scf
  | 0x8 => .jr_c_e8 n
  | 0x9 => .add_hl_sp
  | 0xA => .ld_a_mhld
  | 0xB => .dec_sp
  | 0xC => .inc_a
  | 0xD => .dec_a
  | 0xE => .ld_a_d8 n
  | _ => .ccf

/-- Row 4x of the primary map (R123): the cell `lo`. -/
def primaryRow4 (lo : Nat) : Instr :=
  match lo with
  | 0x0 => .ld_b_b
  | 0x1 => .ld_b_c
  | 0x2 => .ld_b_d
  | 0x3 => .ld_b_e
  | 0x4 => .ld_b_h
  | 0x5 => .ld_b_l
  | 0x6 => .ld_b_mhl
  | 0x7 => .ld_b_a
  | 0x8 => .ld_c_b
  | 0x9 => .ld_c_c
  | 0xA => .ld_c_d
  | 0xB => .ld_c_e
  | 0xC => .ld_c_h
  | 0xD => .ld_c_l
  | 0xE => .ld_c_mhl
  | _ => .ld_c_a

/-- Row 5x of the primary map (R123): the cell `lo`. -/
def primaryRow5 (lo : Nat) : Instr :=
  match lo with
  | 0x0 => .ld_d_b
  | 0x1 => .ld_d_c
  | 0x2 => .ld_d_d
  | 0x3 => .ld_d_e
  | 0x4 => .ld_d_h
  | 0x5 => .ld_d_l
  | 0x6 => .ld_d_mhl
  | 0x7 => .ld_d_a
  | 0x8 => .ld_e_b
  | 0x9 => .ld_e_c
  | 0xA => .ld_e_d
  | 0xB => .ld_e_e
  | 0xC => .ld_e_h
  | 0xD => .ld_e_l
  | 0xE => .ld_e_mhl
  | _ => .ld_e_a

/-- Row 6x of the primary map (R123): the cell `lo`. -/
def primaryRow6 (lo : Nat) : Instr :=
  match lo with
  | 0x0 => .ld_h_b
  | 0x1 => .ld_h_c
  | 0x2 => .ld_h_d
  | 0x3 => .ld_h_e
  | 0x4 => .ld_h_h
  | 0x5 => .ld_h_l
  | 0x6 => .ld_h_mhl
  | 0x7 => .ld_h_a
  | 0x8 => .ld_l_b
  | 0x9 => .ld_l_c
  | 0xA => .ld_l_d
  | 0xB => .ld_l_e
  | 0xC => .ld_l_h
  | 0xD => .ld_l_l
  | 0xE => .ld_l_mhl
  | _ => .ld_l_a

/-- Row 7x of the primary map (R123): the cell `lo`. -/
def primaryRow7 (lo : Nat) : Instr :=
  match lo with
  | 0x0 => .ld_mhl_b
  | 0x1 => .ld_mhl_c
  | 0x2 => .ld_mhl_d
  | 0x3 => .ld_mhl_e
  | 0x4 => .ld_mhl_h
  | 0x5 => .ld_mhl_l
  | 0x6 => .halt
  | 0x7 => .ld_mhl_a
  | 0x8 => .ld_a_b
  | 0x9 => .ld_a_c
  | 0xA => .ld_a_d
  | 0xB => .ld_a_e
  | 0xC => .ld_a_h
  | 0xD => .ld_a_l
  | 0xE => .ld_a_mhl
  | _ => .ld_a_a

/-- Row 8x of the primary map (R123): the cell `lo`. -/
def primaryRow8 (lo : Nat) : Instr :=
  match lo with
  | 0x0 => .add_a_b
  | 0x1 => .add_a_c
  | 0x2 => .add_a_d
  | 0x3 => .add_a_e
  | 0x4 => .add_a_h
  | 0x5 => .add_a_l
  | 0x6 => .add_a_mhl
  | 0x7 => .add_a_a
  | 0x8 => .adc_a_b
  | 0x9 => .adc_a_c
  | 0xA => .adc_a_d
  | 0xB => .adc_a_e
  | 0xC => .adc_a_h
  | 0xD => .adc_a_l
  | 0xE => .adc_a_mhl
  | _ => .adc_a_a

/-- Row 9x of the primary map (R123): the cell `lo`. -/
def primaryRow9 (lo : Nat) : Instr :=
  match lo with
  | 0x0 => .sub_b
  | 0x1 => .sub_c
  | 0x2 => .sub_d
  | 0x3 => .sub_e
  | 0x4 => .sub_h
  | 0x5 => .sub_l
  | 0x6 => .sub_mhl
  | 0x7 => .sub_a
  | 0x8 => .sbc_a_b
  | 0x9 => .sbc_a_c
  | 0xA => .sbc_a_d
  | 0xB => .sbc_a_e
  | 0xC => .sbc_a_h
  | 0xD => .sbc_a_l
  | 0xE => .sbc_a_mhl
  | _ => .sbc_a_a

/-- Row Ax of the primary map (R123): the cell `lo`. -/
def primaryRowA (lo : Nat) : Instr :=
  match lo with
  | 0x0 => .and_b
  | 0x1 => .and_c
  | 0x2 => .and_d
  | 0x3 => .and_e
  | 0x4 => .and_h
  | 0x5 => .and_l
  | 0x6 => .and_mhl
  | 0x7 => .and_a
  | 0x8 => .xor_b
  | 0x9 => .xor_c
  | 0xA => .xor_d
  | 0xB => .xor_e
  | 0xC => .xor_h
  | 0xD => .xor_l
  | 0xE => .xor_mhl
  | _ => .xor_a

/-- Row Bx of the primary map (R123): the cell `lo`. -/
def primaryRowB (lo : Nat) : Instr :=
  match lo with
  | 0x0 => .or_b
  | 0x1 => .or_c
  | 0x2 => .or_d
  | 0x3 => .or_e
  | 0x4 => .or_h
  | 0x5 => .or_l
  | 0x6 => .or_mhl
  | 0x7 => .or_a
  | 0x8 => .cp_b
  | 0x9 => .cp_c
  | 0xA => .cp_d
  | 0xB => .cp_e
  | 0xC => .cp_h
  | 0xD => .cp_l
  | 0xE => .cp_mhl
  | _ => .cp_a

/-- Row Cx of the primary map (R123): the cell `lo`, with the bytes after the opcode. -/
def primaryRowC (lo : Nat) (n n2 : Byte) : Instr :=
  match lo with
  | 0x0 => .ret_nz
  | 0x1 => .pop_bc
  | 0x2 => .jp_nz_a16 (wordOf n n2)
  | 0x3 => .jp_a16 (wordOf n n2)
  | 0x4 => .call_nz_a16 (wordOf n n2)
  | 0x5 => .push_bc
  | 0x6 => .add_a_d8 n
  | 0x7 => .rst_00
  | 0x8 => .ret_z
  | 0x9 => .ret
  | 0xA => .jp_z_a16 (wordOf n n2)
  | 0xB => .cb_prefix n
  | 0xC => .call_z_a16 (wordOf n n2)
  | 0xD => .call_a16 (wordOf n n2)
  | 0xE => .adc_a_d8 n
  | _ => .rst_08

/-- Row Dx of the primary map (R123): the cell `lo`, with the bytes after the opcode. -/
def primaryRowD (lo : Nat) (n n2 : Byte) : Instr :=
  match lo with
  | 0x0 => .ret_nc
  | 0x1 => .pop_de
  | 0x2 => .jp_nc_a16 (wordOf n n2)
  | 0x3 => .illegal_d3
  | 0x4 => .call_nc_a16 (wordOf n n2)
  | 0x5 => .push_de
  | 0x6 => .sub_d8 n
  | 0x7 => .rst_10
  | 0x8 => .ret_c
  | 0x9 => .reti
  | 0xA => .jp_c_a16 (wordOf n n2)
  | 0xB => .illegal_db
  | 0xC => .call_c_a16 (wordOf n n2)
  | 0xD => .illegal_dd
  | 0xE => .sbc_a_d8 n
  | _ => .rst_18

/-- Row Ex of the primary map (R123): the cell `lo`, with the bytes after the opcode. -/
def primaryRowE (lo : Nat) (n n2 : Byte) : Instr :=
  match lo with
  | 0x0 => .ldh_ma8_a n
  | 0x1 => .pop_hl
  | 0x2 => .ld_mc_a
  | 0x3 => .illegal_e3
  | 0x4 => .illegal_e4
  | 0x5 => .push_hl
  | 0x6 => .and_d8 n
  | 0x7 => .rst_20
  | 0x8 => .add_sp_e8 n
  | 0x9 => .jp_hl
  | 0xA => .ld_ma16_a (wordOf n n2)
  | 0xB => .illegal_eb
  | 0xC => .illegal_ec
  | 0xD => .illegal_ed
  | 0xE => .xor_d8 n
  | _ => .rst_28

/-- Row Fx of the primary map (R123): the cell `lo`, with the bytes after the opcode. -/
def primaryRowF (lo : Nat) (n n2 : Byte) : Instr :=
  match lo with
  | 0x0 => .ldh_a_ma8 n
  | 0x1 => .pop_af
  | 0x2 => .ld_a_mc
  | 0x3 => .di
  | 0x4 => .illegal_f4
  | 0x5 => .push_af
  | 0x6 => .or_d8 n
  | 0x7 => .rst_30
  | 0x8 => .ld_hl_sp_e8 n
  | 0x9 => .ld_sp_hl
  | 0xA => .ld_a_ma16 (wordOf n n2)
  | 0xB => .ei
  | 0xC => .illegal_fc
  | 0xD => .illegal_fd
  | 0xE => .cp_d8 n
  | _ => .rst_38

/-- The primary map (R123). -/
def decodePrimary (op n n2 : Byte) : Instr :=
  match op.toNat / 16 with
  | 0x0 => primaryRow0 (op.toNat % 16) n n2
  | 0x1 => primaryRow1 (op.toNat % 16) n n2
  | 0x2 => primaryRow2 (op.toNat % 16) n n2
  | 0x3 => primaryRow3 (op.toNat % 16) n n2
  | 0x4 => primaryRow4 (op.toNat % 16)
  | 0x5 => primaryRow5 (op.toNat % 16)
  | 0x6 => primaryRow6 (op.toNat % 16)
  | 0x7 => primaryRow7 (op.toNat % 16)
  | 0x8 => primaryRow8 (op.toNat % 16)
  | 0x9 => primaryRow9 (op.toNat % 16)
  | 0xA => primaryRowA (op.toNat % 16)
  | 0xB => primaryRowB (op.toNat % 16)
  | 0xC => primaryRowC (op.toNat % 16) n n2
  | 0xD => primaryRowD (op.toNat % 16) n n2
  | 0xE => primaryRowE (op.toNat % 16) n n2
  | _ => primaryRowF (op.toNat % 16) n n2

/-- Row 0x of the CB map (R127): the cell `lo`. -/
def cbRow0 (lo : Nat) : Instr :=
  match lo with
  | 0x0 => .rlc_b
  | 0x1 => .rlc_c
  | 0x2 => .rlc_d
  | 0x3 => .rlc_e
  | 0x4 => .rlc_h
  | 0x5 => .rlc_l
  | 0x6 => .rlc_mhl
  | 0x7 => .rlc_a
  | 0x8 => .rrc_b
  | 0x9 => .rrc_c
  | 0xA => .rrc_d
  | 0xB => .rrc_e
  | 0xC => .rrc_h
  | 0xD => .rrc_l
  | 0xE => .rrc_mhl
  | _ => .rrc_a

/-- Row 1x of the CB map (R127): the cell `lo`. -/
def cbRow1 (lo : Nat) : Instr :=
  match lo with
  | 0x0 => .rl_b
  | 0x1 => .rl_c
  | 0x2 => .rl_d
  | 0x3 => .rl_e
  | 0x4 => .rl_h
  | 0x5 => .rl_l
  | 0x6 => .rl_mhl
  | 0x7 => .rl_a
  | 0x8 => .rr_b
  | 0x9 => .rr_c
  | 0xA => .rr_d
  | 0xB => .rr_e
  | 0xC => .rr_h
  | 0xD => .rr_l
  | 0xE => .rr_mhl
  | _ => .rr_a

/-- Row 2x of the CB map (R127): the cell `lo`. -/
def cbRow2 (lo : Nat) : Instr :=
  match lo with
  | 0x0 => .sla_b
  | 0x1 => .sla_c
  | 0x2 => .sla_d
  | 0x3 => .sla_e
  | 0x4 => .sla_h
  | 0x5 => .sla_l
  | 0x6 => .sla_mhl
  | 0x7 => .sla_a
  | 0x8 => .sra_b
  | 0x9 => .sra_c
  | 0xA => .sra_d
  | 0xB => .sra_e
  | 0xC => .sra_h
  | 0xD => .sra_l
  | 0xE => .sra_mhl
  | _ => .sra_a

/-- Row 3x of the CB map (R127): the cell `lo`. -/
def cbRow3 (lo : Nat) : Instr :=
  match lo with
  | 0x0 => .swap_b
  | 0x1 => .swap_c
  | 0x2 => .swap_d
  | 0x3 => .swap_e
  | 0x4 => .swap_h
  | 0x5 => .swap_l
  | 0x6 => .swap_mhl
  | 0x7 => .swap_a
  | 0x8 => .srl_b
  | 0x9 => .srl_c
  | 0xA => .srl_d
  | 0xB => .srl_e
  | 0xC => .srl_h
  | 0xD => .srl_l
  | 0xE => .srl_mhl
  | _ => .srl_a

/-- Row 4x of the CB map (R127): the cell `lo`. -/
def cbRow4 (lo : Nat) : Instr :=
  match lo with
  | 0x0 => .bit_0_b
  | 0x1 => .bit_0_c
  | 0x2 => .bit_0_d
  | 0x3 => .bit_0_e
  | 0x4 => .bit_0_h
  | 0x5 => .bit_0_l
  | 0x6 => .bit_0_mhl
  | 0x7 => .bit_0_a
  | 0x8 => .bit_1_b
  | 0x9 => .bit_1_c
  | 0xA => .bit_1_d
  | 0xB => .bit_1_e
  | 0xC => .bit_1_h
  | 0xD => .bit_1_l
  | 0xE => .bit_1_mhl
  | _ => .bit_1_a

/-- Row 5x of the CB map (R127): the cell `lo`. -/
def cbRow5 (lo : Nat) : Instr :=
  match lo with
  | 0x0 => .bit_2_b
  | 0x1 => .bit_2_c
  | 0x2 => .bit_2_d
  | 0x3 => .bit_2_e
  | 0x4 => .bit_2_h
  | 0x5 => .bit_2_l
  | 0x6 => .bit_2_mhl
  | 0x7 => .bit_2_a
  | 0x8 => .bit_3_b
  | 0x9 => .bit_3_c
  | 0xA => .bit_3_d
  | 0xB => .bit_3_e
  | 0xC => .bit_3_h
  | 0xD => .bit_3_l
  | 0xE => .bit_3_mhl
  | _ => .bit_3_a

/-- Row 6x of the CB map (R127): the cell `lo`. -/
def cbRow6 (lo : Nat) : Instr :=
  match lo with
  | 0x0 => .bit_4_b
  | 0x1 => .bit_4_c
  | 0x2 => .bit_4_d
  | 0x3 => .bit_4_e
  | 0x4 => .bit_4_h
  | 0x5 => .bit_4_l
  | 0x6 => .bit_4_mhl
  | 0x7 => .bit_4_a
  | 0x8 => .bit_5_b
  | 0x9 => .bit_5_c
  | 0xA => .bit_5_d
  | 0xB => .bit_5_e
  | 0xC => .bit_5_h
  | 0xD => .bit_5_l
  | 0xE => .bit_5_mhl
  | _ => .bit_5_a

/-- Row 7x of the CB map (R127): the cell `lo`. -/
def cbRow7 (lo : Nat) : Instr :=
  match lo with
  | 0x0 => .bit_6_b
  | 0x1 => .bit_6_c
  | 0x2 => .bit_6_d
  | 0x3 => .bit_6_e
  | 0x4 => .bit_6_h
  | 0x5 => .bit_6_l
  | 0x6 => .bit_6_mhl
  | 0x7 => .bit_6_a
  | 0x8 => .bit_7_b
  | 0x9 => .bit_7_c
  | 0xA => .bit_7_d
  | 0xB => .bit_7_e
  | 0xC => .bit_7_h
  | 0xD => .bit_7_l
  | 0xE => .bit_7_mhl
  | _ => .bit_7_a

/-- Row 8x of the CB map (R127): the cell `lo`. -/
def cbRow8 (lo : Nat) : Instr :=
  match lo with
  | 0x0 => .res_0_b
  | 0x1 => .res_0_c
  | 0x2 => .res_0_d
  | 0x3 => .res_0_e
  | 0x4 => .res_0_h
  | 0x5 => .res_0_l
  | 0x6 => .res_0_mhl
  | 0x7 => .res_0_a
  | 0x8 => .res_1_b
  | 0x9 => .res_1_c
  | 0xA => .res_1_d
  | 0xB => .res_1_e
  | 0xC => .res_1_h
  | 0xD => .res_1_l
  | 0xE => .res_1_mhl
  | _ => .res_1_a

/-- Row 9x of the CB map (R127): the cell `lo`. -/
def cbRow9 (lo : Nat) : Instr :=
  match lo with
  | 0x0 => .res_2_b
  | 0x1 => .res_2_c
  | 0x2 => .res_2_d
  | 0x3 => .res_2_e
  | 0x4 => .res_2_h
  | 0x5 => .res_2_l
  | 0x6 => .res_2_mhl
  | 0x7 => .res_2_a
  | 0x8 => .res_3_b
  | 0x9 => .res_3_c
  | 0xA => .res_3_d
  | 0xB => .res_3_e
  | 0xC => .res_3_h
  | 0xD => .res_3_l
  | 0xE => .res_3_mhl
  | _ => .res_3_a

/-- Row Ax of the CB map (R127): the cell `lo`. -/
def cbRowA (lo : Nat) : Instr :=
  match lo with
  | 0x0 => .res_4_b
  | 0x1 => .res_4_c
  | 0x2 => .res_4_d
  | 0x3 => .res_4_e
  | 0x4 => .res_4_h
  | 0x5 => .res_4_l
  | 0x6 => .res_4_mhl
  | 0x7 => .res_4_a
  | 0x8 => .res_5_b
  | 0x9 => .res_5_c
  | 0xA => .res_5_d
  | 0xB => .res_5_e
  | 0xC => .res_5_h
  | 0xD => .res_5_l
  | 0xE => .res_5_mhl
  | _ => .res_5_a

/-- Row Bx of the CB map (R127): the cell `lo`. -/
def cbRowB (lo : Nat) : Instr :=
  match lo with
  | 0x0 => .res_6_b
  | 0x1 => .res_6_c
  | 0x2 => .res_6_d
  | 0x3 => .res_6_e
  | 0x4 => .res_6_h
  | 0x5 => .res_6_l
  | 0x6 => .res_6_mhl
  | 0x7 => .res_6_a
  | 0x8 => .res_7_b
  | 0x9 => .res_7_c
  | 0xA => .res_7_d
  | 0xB => .res_7_e
  | 0xC => .res_7_h
  | 0xD => .res_7_l
  | 0xE => .res_7_mhl
  | _ => .res_7_a

/-- Row Cx of the CB map (R127): the cell `lo`. -/
def cbRowC (lo : Nat) : Instr :=
  match lo with
  | 0x0 => .set_0_b
  | 0x1 => .set_0_c
  | 0x2 => .set_0_d
  | 0x3 => .set_0_e
  | 0x4 => .set_0_h
  | 0x5 => .set_0_l
  | 0x6 => .set_0_mhl
  | 0x7 => .set_0_a
  | 0x8 => .set_1_b
  | 0x9 => .set_1_c
  | 0xA => .set_1_d
  | 0xB => .set_1_e
  | 0xC => .set_1_h
  | 0xD => .set_1_l
  | 0xE => .set_1_mhl
  | _ => .set_1_a

/-- Row Dx of the CB map (R127): the cell `lo`. -/
def cbRowD (lo : Nat) : Instr :=
  match lo with
  | 0x0 => .set_2_b
  | 0x1 => .set_2_c
  | 0x2 => .set_2_d
  | 0x3 => .set_2_e
  | 0x4 => .set_2_h
  | 0x5 => .set_2_l
  | 0x6 => .set_2_mhl
  | 0x7 => .set_2_a
  | 0x8 => .set_3_b
  | 0x9 => .set_3_c
  | 0xA => .set_3_d
  | 0xB => .set_3_e
  | 0xC => .set_3_h
  | 0xD => .set_3_l
  | 0xE => .set_3_mhl
  | _ => .set_3_a

/-- Row Ex of the CB map (R127): the cell `lo`. -/
def cbRowE (lo : Nat) : Instr :=
  match lo with
  | 0x0 => .set_4_b
  | 0x1 => .set_4_c
  | 0x2 => .set_4_d
  | 0x3 => .set_4_e
  | 0x4 => .set_4_h
  | 0x5 => .set_4_l
  | 0x6 => .set_4_mhl
  | 0x7 => .set_4_a
  | 0x8 => .set_5_b
  | 0x9 => .set_5_c
  | 0xA => .set_5_d
  | 0xB => .set_5_e
  | 0xC => .set_5_h
  | 0xD => .set_5_l
  | 0xE => .set_5_mhl
  | _ => .set_5_a

/-- Row Fx of the CB map (R127): the cell `lo`. -/
def cbRowF (lo : Nat) : Instr :=
  match lo with
  | 0x0 => .set_6_b
  | 0x1 => .set_6_c
  | 0x2 => .set_6_d
  | 0x3 => .set_6_e
  | 0x4 => .set_6_h
  | 0x5 => .set_6_l
  | 0x6 => .set_6_mhl
  | 0x7 => .set_6_a
  | 0x8 => .set_7_b
  | 0x9 => .set_7_c
  | 0xA => .set_7_d
  | 0xB => .set_7_e
  | 0xC => .set_7_h
  | 0xD => .set_7_l
  | 0xE => .set_7_mhl
  | _ => .set_7_a

/-- The CB map (R127): every sub-opcode has a row, so the answer is never none (R129). -/
def decodeCb (op2 : Byte) : Option Instr :=
  match op2.toNat / 16 with
  | 0x0 => some (cbRow0 (op2.toNat % 16))
  | 0x1 => some (cbRow1 (op2.toNat % 16))
  | 0x2 => some (cbRow2 (op2.toNat % 16))
  | 0x3 => some (cbRow3 (op2.toNat % 16))
  | 0x4 => some (cbRow4 (op2.toNat % 16))
  | 0x5 => some (cbRow5 (op2.toNat % 16))
  | 0x6 => some (cbRow6 (op2.toNat % 16))
  | 0x7 => some (cbRow7 (op2.toNat % 16))
  | 0x8 => some (cbRow8 (op2.toNat % 16))
  | 0x9 => some (cbRow9 (op2.toNat % 16))
  | 0xA => some (cbRowA (op2.toNat % 16))
  | 0xB => some (cbRowB (op2.toNat % 16))
  | 0xC => some (cbRowC (op2.toNat % 16))
  | 0xD => some (cbRowD (op2.toNat % 16))
  | 0xE => some (cbRowE (op2.toNat % 16))
  | 0xF => some (cbRowF (op2.toNat % 16))
  | _ => none

/-- Decode one instruction and give back the bytes after it (R121). -/
def decode : List Byte → Except DecodeError (Instr × List Byte)
  | [] => .error .noByte
  | op :: rest =>
    if op = 0xCB#8 then
      match rest with
      | [] => .error .missingSubOpcode
      | op2 :: rest' =>
        match decodeCb op2 with
        | some i => .ok (i, rest')
        | none => .error (.unknownSubOpcode op2)
    else
      match instrLength op, rest with
      | 1, rest => .ok (decodePrimary op 0#8 0#8, rest)
      | 2, n :: rest' => .ok (decodePrimary op n 0#8, rest')
      | 3, lo :: hi :: rest' => .ok (decodePrimary op lo hi, rest')
      | _, _ => .error (.missingImmediate op)

/-- The bytes of an instruction in fetch order (R110, R123, R127). -/
def encode : Instr → List Byte
  | .nop => [0x00#8]
  | .ld_bc_d16 nn => [0x01#8, loByte nn, hiByte nn]
  | .ld_mbc_a => [0x02#8]
  | .inc_bc => [0x03#8]
  | .inc_b => [0x04#8]
  | .dec_b => [0x05#8]
  | .ld_b_d8 n => [0x06#8, n]
  | .rlca => [0x07#8]
  | .ld_ma16_sp nn => [0x08#8, loByte nn, hiByte nn]
  | .add_hl_bc => [0x09#8]
  | .ld_a_mbc => [0x0A#8]
  | .dec_bc => [0x0B#8]
  | .inc_c => [0x0C#8]
  | .dec_c => [0x0D#8]
  | .ld_c_d8 n => [0x0E#8, n]
  | .rrca => [0x0F#8]
  | .stop => [0x10#8]
  | .ld_de_d16 nn => [0x11#8, loByte nn, hiByte nn]
  | .ld_mde_a => [0x12#8]
  | .inc_de => [0x13#8]
  | .inc_d => [0x14#8]
  | .dec_d => [0x15#8]
  | .ld_d_d8 n => [0x16#8, n]
  | .rla => [0x17#8]
  | .jr_e8 e => [0x18#8, e]
  | .add_hl_de => [0x19#8]
  | .ld_a_mde => [0x1A#8]
  | .dec_de => [0x1B#8]
  | .inc_e => [0x1C#8]
  | .dec_e => [0x1D#8]
  | .ld_e_d8 n => [0x1E#8, n]
  | .rra => [0x1F#8]
  | .jr_nz_e8 e => [0x20#8, e]
  | .ld_hl_d16 nn => [0x21#8, loByte nn, hiByte nn]
  | .ld_mhli_a => [0x22#8]
  | .inc_hl => [0x23#8]
  | .inc_h => [0x24#8]
  | .dec_h => [0x25#8]
  | .ld_h_d8 n => [0x26#8, n]
  | .daa => [0x27#8]
  | .jr_z_e8 e => [0x28#8, e]
  | .add_hl_hl => [0x29#8]
  | .ld_a_mhli => [0x2A#8]
  | .dec_hl => [0x2B#8]
  | .inc_l => [0x2C#8]
  | .dec_l => [0x2D#8]
  | .ld_l_d8 n => [0x2E#8, n]
  | .cpl => [0x2F#8]
  | .jr_nc_e8 e => [0x30#8, e]
  | .ld_sp_d16 nn => [0x31#8, loByte nn, hiByte nn]
  | .ld_mhld_a => [0x32#8]
  | .inc_sp => [0x33#8]
  | .inc_mhl => [0x34#8]
  | .dec_mhl => [0x35#8]
  | .ld_mhl_d8 n => [0x36#8, n]
  | .scf => [0x37#8]
  | .jr_c_e8 e => [0x38#8, e]
  | .add_hl_sp => [0x39#8]
  | .ld_a_mhld => [0x3A#8]
  | .dec_sp => [0x3B#8]
  | .inc_a => [0x3C#8]
  | .dec_a => [0x3D#8]
  | .ld_a_d8 n => [0x3E#8, n]
  | .ccf => [0x3F#8]
  | .ld_b_b => [0x40#8]
  | .ld_b_c => [0x41#8]
  | .ld_b_d => [0x42#8]
  | .ld_b_e => [0x43#8]
  | .ld_b_h => [0x44#8]
  | .ld_b_l => [0x45#8]
  | .ld_b_mhl => [0x46#8]
  | .ld_b_a => [0x47#8]
  | .ld_c_b => [0x48#8]
  | .ld_c_c => [0x49#8]
  | .ld_c_d => [0x4A#8]
  | .ld_c_e => [0x4B#8]
  | .ld_c_h => [0x4C#8]
  | .ld_c_l => [0x4D#8]
  | .ld_c_mhl => [0x4E#8]
  | .ld_c_a => [0x4F#8]
  | .ld_d_b => [0x50#8]
  | .ld_d_c => [0x51#8]
  | .ld_d_d => [0x52#8]
  | .ld_d_e => [0x53#8]
  | .ld_d_h => [0x54#8]
  | .ld_d_l => [0x55#8]
  | .ld_d_mhl => [0x56#8]
  | .ld_d_a => [0x57#8]
  | .ld_e_b => [0x58#8]
  | .ld_e_c => [0x59#8]
  | .ld_e_d => [0x5A#8]
  | .ld_e_e => [0x5B#8]
  | .ld_e_h => [0x5C#8]
  | .ld_e_l => [0x5D#8]
  | .ld_e_mhl => [0x5E#8]
  | .ld_e_a => [0x5F#8]
  | .ld_h_b => [0x60#8]
  | .ld_h_c => [0x61#8]
  | .ld_h_d => [0x62#8]
  | .ld_h_e => [0x63#8]
  | .ld_h_h => [0x64#8]
  | .ld_h_l => [0x65#8]
  | .ld_h_mhl => [0x66#8]
  | .ld_h_a => [0x67#8]
  | .ld_l_b => [0x68#8]
  | .ld_l_c => [0x69#8]
  | .ld_l_d => [0x6A#8]
  | .ld_l_e => [0x6B#8]
  | .ld_l_h => [0x6C#8]
  | .ld_l_l => [0x6D#8]
  | .ld_l_mhl => [0x6E#8]
  | .ld_l_a => [0x6F#8]
  | .ld_mhl_b => [0x70#8]
  | .ld_mhl_c => [0x71#8]
  | .ld_mhl_d => [0x72#8]
  | .ld_mhl_e => [0x73#8]
  | .ld_mhl_h => [0x74#8]
  | .ld_mhl_l => [0x75#8]
  | .halt => [0x76#8]
  | .ld_mhl_a => [0x77#8]
  | .ld_a_b => [0x78#8]
  | .ld_a_c => [0x79#8]
  | .ld_a_d => [0x7A#8]
  | .ld_a_e => [0x7B#8]
  | .ld_a_h => [0x7C#8]
  | .ld_a_l => [0x7D#8]
  | .ld_a_mhl => [0x7E#8]
  | .ld_a_a => [0x7F#8]
  | .add_a_b => [0x80#8]
  | .add_a_c => [0x81#8]
  | .add_a_d => [0x82#8]
  | .add_a_e => [0x83#8]
  | .add_a_h => [0x84#8]
  | .add_a_l => [0x85#8]
  | .add_a_mhl => [0x86#8]
  | .add_a_a => [0x87#8]
  | .adc_a_b => [0x88#8]
  | .adc_a_c => [0x89#8]
  | .adc_a_d => [0x8A#8]
  | .adc_a_e => [0x8B#8]
  | .adc_a_h => [0x8C#8]
  | .adc_a_l => [0x8D#8]
  | .adc_a_mhl => [0x8E#8]
  | .adc_a_a => [0x8F#8]
  | .sub_b => [0x90#8]
  | .sub_c => [0x91#8]
  | .sub_d => [0x92#8]
  | .sub_e => [0x93#8]
  | .sub_h => [0x94#8]
  | .sub_l => [0x95#8]
  | .sub_mhl => [0x96#8]
  | .sub_a => [0x97#8]
  | .sbc_a_b => [0x98#8]
  | .sbc_a_c => [0x99#8]
  | .sbc_a_d => [0x9A#8]
  | .sbc_a_e => [0x9B#8]
  | .sbc_a_h => [0x9C#8]
  | .sbc_a_l => [0x9D#8]
  | .sbc_a_mhl => [0x9E#8]
  | .sbc_a_a => [0x9F#8]
  | .and_b => [0xA0#8]
  | .and_c => [0xA1#8]
  | .and_d => [0xA2#8]
  | .and_e => [0xA3#8]
  | .and_h => [0xA4#8]
  | .and_l => [0xA5#8]
  | .and_mhl => [0xA6#8]
  | .and_a => [0xA7#8]
  | .xor_b => [0xA8#8]
  | .xor_c => [0xA9#8]
  | .xor_d => [0xAA#8]
  | .xor_e => [0xAB#8]
  | .xor_h => [0xAC#8]
  | .xor_l => [0xAD#8]
  | .xor_mhl => [0xAE#8]
  | .xor_a => [0xAF#8]
  | .or_b => [0xB0#8]
  | .or_c => [0xB1#8]
  | .or_d => [0xB2#8]
  | .or_e => [0xB3#8]
  | .or_h => [0xB4#8]
  | .or_l => [0xB5#8]
  | .or_mhl => [0xB6#8]
  | .or_a => [0xB7#8]
  | .cp_b => [0xB8#8]
  | .cp_c => [0xB9#8]
  | .cp_d => [0xBA#8]
  | .cp_e => [0xBB#8]
  | .cp_h => [0xBC#8]
  | .cp_l => [0xBD#8]
  | .cp_mhl => [0xBE#8]
  | .cp_a => [0xBF#8]
  | .ret_nz => [0xC0#8]
  | .pop_bc => [0xC1#8]
  | .jp_nz_a16 nn => [0xC2#8, loByte nn, hiByte nn]
  | .jp_a16 nn => [0xC3#8, loByte nn, hiByte nn]
  | .call_nz_a16 nn => [0xC4#8, loByte nn, hiByte nn]
  | .push_bc => [0xC5#8]
  | .add_a_d8 n => [0xC6#8, n]
  | .rst_00 => [0xC7#8]
  | .ret_z => [0xC8#8]
  | .ret => [0xC9#8]
  | .jp_z_a16 nn => [0xCA#8, loByte nn, hiByte nn]
  | .cb_prefix op2 => [0xCB#8, op2]
  | .call_z_a16 nn => [0xCC#8, loByte nn, hiByte nn]
  | .call_a16 nn => [0xCD#8, loByte nn, hiByte nn]
  | .adc_a_d8 n => [0xCE#8, n]
  | .rst_08 => [0xCF#8]
  | .ret_nc => [0xD0#8]
  | .pop_de => [0xD1#8]
  | .jp_nc_a16 nn => [0xD2#8, loByte nn, hiByte nn]
  | .illegal_d3 => [0xD3#8]
  | .call_nc_a16 nn => [0xD4#8, loByte nn, hiByte nn]
  | .push_de => [0xD5#8]
  | .sub_d8 n => [0xD6#8, n]
  | .rst_10 => [0xD7#8]
  | .ret_c => [0xD8#8]
  | .reti => [0xD9#8]
  | .jp_c_a16 nn => [0xDA#8, loByte nn, hiByte nn]
  | .illegal_db => [0xDB#8]
  | .call_c_a16 nn => [0xDC#8, loByte nn, hiByte nn]
  | .illegal_dd => [0xDD#8]
  | .sbc_a_d8 n => [0xDE#8, n]
  | .rst_18 => [0xDF#8]
  | .ldh_ma8_a n => [0xE0#8, n]
  | .pop_hl => [0xE1#8]
  | .ld_mc_a => [0xE2#8]
  | .illegal_e3 => [0xE3#8]
  | .illegal_e4 => [0xE4#8]
  | .push_hl => [0xE5#8]
  | .and_d8 n => [0xE6#8, n]
  | .rst_20 => [0xE7#8]
  | .add_sp_e8 e => [0xE8#8, e]
  | .jp_hl => [0xE9#8]
  | .ld_ma16_a nn => [0xEA#8, loByte nn, hiByte nn]
  | .illegal_eb => [0xEB#8]
  | .illegal_ec => [0xEC#8]
  | .illegal_ed => [0xED#8]
  | .xor_d8 n => [0xEE#8, n]
  | .rst_28 => [0xEF#8]
  | .ldh_a_ma8 n => [0xF0#8, n]
  | .pop_af => [0xF1#8]
  | .ld_a_mc => [0xF2#8]
  | .di => [0xF3#8]
  | .illegal_f4 => [0xF4#8]
  | .push_af => [0xF5#8]
  | .or_d8 n => [0xF6#8, n]
  | .rst_30 => [0xF7#8]
  | .ld_hl_sp_e8 e => [0xF8#8, e]
  | .ld_sp_hl => [0xF9#8]
  | .ld_a_ma16 nn => [0xFA#8, loByte nn, hiByte nn]
  | .ei => [0xFB#8]
  | .illegal_fc => [0xFC#8]
  | .illegal_fd => [0xFD#8]
  | .cp_d8 n => [0xFE#8, n]
  | .rst_38 => [0xFF#8]
  | .rlc_b => [0xCB#8, 0x00#8]
  | .rlc_c => [0xCB#8, 0x01#8]
  | .rlc_d => [0xCB#8, 0x02#8]
  | .rlc_e => [0xCB#8, 0x03#8]
  | .rlc_h => [0xCB#8, 0x04#8]
  | .rlc_l => [0xCB#8, 0x05#8]
  | .rlc_mhl => [0xCB#8, 0x06#8]
  | .rlc_a => [0xCB#8, 0x07#8]
  | .rrc_b => [0xCB#8, 0x08#8]
  | .rrc_c => [0xCB#8, 0x09#8]
  | .rrc_d => [0xCB#8, 0x0A#8]
  | .rrc_e => [0xCB#8, 0x0B#8]
  | .rrc_h => [0xCB#8, 0x0C#8]
  | .rrc_l => [0xCB#8, 0x0D#8]
  | .rrc_mhl => [0xCB#8, 0x0E#8]
  | .rrc_a => [0xCB#8, 0x0F#8]
  | .rl_b => [0xCB#8, 0x10#8]
  | .rl_c => [0xCB#8, 0x11#8]
  | .rl_d => [0xCB#8, 0x12#8]
  | .rl_e => [0xCB#8, 0x13#8]
  | .rl_h => [0xCB#8, 0x14#8]
  | .rl_l => [0xCB#8, 0x15#8]
  | .rl_mhl => [0xCB#8, 0x16#8]
  | .rl_a => [0xCB#8, 0x17#8]
  | .rr_b => [0xCB#8, 0x18#8]
  | .rr_c => [0xCB#8, 0x19#8]
  | .rr_d => [0xCB#8, 0x1A#8]
  | .rr_e => [0xCB#8, 0x1B#8]
  | .rr_h => [0xCB#8, 0x1C#8]
  | .rr_l => [0xCB#8, 0x1D#8]
  | .rr_mhl => [0xCB#8, 0x1E#8]
  | .rr_a => [0xCB#8, 0x1F#8]
  | .sla_b => [0xCB#8, 0x20#8]
  | .sla_c => [0xCB#8, 0x21#8]
  | .sla_d => [0xCB#8, 0x22#8]
  | .sla_e => [0xCB#8, 0x23#8]
  | .sla_h => [0xCB#8, 0x24#8]
  | .sla_l => [0xCB#8, 0x25#8]
  | .sla_mhl => [0xCB#8, 0x26#8]
  | .sla_a => [0xCB#8, 0x27#8]
  | .sra_b => [0xCB#8, 0x28#8]
  | .sra_c => [0xCB#8, 0x29#8]
  | .sra_d => [0xCB#8, 0x2A#8]
  | .sra_e => [0xCB#8, 0x2B#8]
  | .sra_h => [0xCB#8, 0x2C#8]
  | .sra_l => [0xCB#8, 0x2D#8]
  | .sra_mhl => [0xCB#8, 0x2E#8]
  | .sra_a => [0xCB#8, 0x2F#8]
  | .swap_b => [0xCB#8, 0x30#8]
  | .swap_c => [0xCB#8, 0x31#8]
  | .swap_d => [0xCB#8, 0x32#8]
  | .swap_e => [0xCB#8, 0x33#8]
  | .swap_h => [0xCB#8, 0x34#8]
  | .swap_l => [0xCB#8, 0x35#8]
  | .swap_mhl => [0xCB#8, 0x36#8]
  | .swap_a => [0xCB#8, 0x37#8]
  | .srl_b => [0xCB#8, 0x38#8]
  | .srl_c => [0xCB#8, 0x39#8]
  | .srl_d => [0xCB#8, 0x3A#8]
  | .srl_e => [0xCB#8, 0x3B#8]
  | .srl_h => [0xCB#8, 0x3C#8]
  | .srl_l => [0xCB#8, 0x3D#8]
  | .srl_mhl => [0xCB#8, 0x3E#8]
  | .srl_a => [0xCB#8, 0x3F#8]
  | .bit_0_b => [0xCB#8, 0x40#8]
  | .bit_0_c => [0xCB#8, 0x41#8]
  | .bit_0_d => [0xCB#8, 0x42#8]
  | .bit_0_e => [0xCB#8, 0x43#8]
  | .bit_0_h => [0xCB#8, 0x44#8]
  | .bit_0_l => [0xCB#8, 0x45#8]
  | .bit_0_mhl => [0xCB#8, 0x46#8]
  | .bit_0_a => [0xCB#8, 0x47#8]
  | .bit_1_b => [0xCB#8, 0x48#8]
  | .bit_1_c => [0xCB#8, 0x49#8]
  | .bit_1_d => [0xCB#8, 0x4A#8]
  | .bit_1_e => [0xCB#8, 0x4B#8]
  | .bit_1_h => [0xCB#8, 0x4C#8]
  | .bit_1_l => [0xCB#8, 0x4D#8]
  | .bit_1_mhl => [0xCB#8, 0x4E#8]
  | .bit_1_a => [0xCB#8, 0x4F#8]
  | .bit_2_b => [0xCB#8, 0x50#8]
  | .bit_2_c => [0xCB#8, 0x51#8]
  | .bit_2_d => [0xCB#8, 0x52#8]
  | .bit_2_e => [0xCB#8, 0x53#8]
  | .bit_2_h => [0xCB#8, 0x54#8]
  | .bit_2_l => [0xCB#8, 0x55#8]
  | .bit_2_mhl => [0xCB#8, 0x56#8]
  | .bit_2_a => [0xCB#8, 0x57#8]
  | .bit_3_b => [0xCB#8, 0x58#8]
  | .bit_3_c => [0xCB#8, 0x59#8]
  | .bit_3_d => [0xCB#8, 0x5A#8]
  | .bit_3_e => [0xCB#8, 0x5B#8]
  | .bit_3_h => [0xCB#8, 0x5C#8]
  | .bit_3_l => [0xCB#8, 0x5D#8]
  | .bit_3_mhl => [0xCB#8, 0x5E#8]
  | .bit_3_a => [0xCB#8, 0x5F#8]
  | .bit_4_b => [0xCB#8, 0x60#8]
  | .bit_4_c => [0xCB#8, 0x61#8]
  | .bit_4_d => [0xCB#8, 0x62#8]
  | .bit_4_e => [0xCB#8, 0x63#8]
  | .bit_4_h => [0xCB#8, 0x64#8]
  | .bit_4_l => [0xCB#8, 0x65#8]
  | .bit_4_mhl => [0xCB#8, 0x66#8]
  | .bit_4_a => [0xCB#8, 0x67#8]
  | .bit_5_b => [0xCB#8, 0x68#8]
  | .bit_5_c => [0xCB#8, 0x69#8]
  | .bit_5_d => [0xCB#8, 0x6A#8]
  | .bit_5_e => [0xCB#8, 0x6B#8]
  | .bit_5_h => [0xCB#8, 0x6C#8]
  | .bit_5_l => [0xCB#8, 0x6D#8]
  | .bit_5_mhl => [0xCB#8, 0x6E#8]
  | .bit_5_a => [0xCB#8, 0x6F#8]
  | .bit_6_b => [0xCB#8, 0x70#8]
  | .bit_6_c => [0xCB#8, 0x71#8]
  | .bit_6_d => [0xCB#8, 0x72#8]
  | .bit_6_e => [0xCB#8, 0x73#8]
  | .bit_6_h => [0xCB#8, 0x74#8]
  | .bit_6_l => [0xCB#8, 0x75#8]
  | .bit_6_mhl => [0xCB#8, 0x76#8]
  | .bit_6_a => [0xCB#8, 0x77#8]
  | .bit_7_b => [0xCB#8, 0x78#8]
  | .bit_7_c => [0xCB#8, 0x79#8]
  | .bit_7_d => [0xCB#8, 0x7A#8]
  | .bit_7_e => [0xCB#8, 0x7B#8]
  | .bit_7_h => [0xCB#8, 0x7C#8]
  | .bit_7_l => [0xCB#8, 0x7D#8]
  | .bit_7_mhl => [0xCB#8, 0x7E#8]
  | .bit_7_a => [0xCB#8, 0x7F#8]
  | .res_0_b => [0xCB#8, 0x80#8]
  | .res_0_c => [0xCB#8, 0x81#8]
  | .res_0_d => [0xCB#8, 0x82#8]
  | .res_0_e => [0xCB#8, 0x83#8]
  | .res_0_h => [0xCB#8, 0x84#8]
  | .res_0_l => [0xCB#8, 0x85#8]
  | .res_0_mhl => [0xCB#8, 0x86#8]
  | .res_0_a => [0xCB#8, 0x87#8]
  | .res_1_b => [0xCB#8, 0x88#8]
  | .res_1_c => [0xCB#8, 0x89#8]
  | .res_1_d => [0xCB#8, 0x8A#8]
  | .res_1_e => [0xCB#8, 0x8B#8]
  | .res_1_h => [0xCB#8, 0x8C#8]
  | .res_1_l => [0xCB#8, 0x8D#8]
  | .res_1_mhl => [0xCB#8, 0x8E#8]
  | .res_1_a => [0xCB#8, 0x8F#8]
  | .res_2_b => [0xCB#8, 0x90#8]
  | .res_2_c => [0xCB#8, 0x91#8]
  | .res_2_d => [0xCB#8, 0x92#8]
  | .res_2_e => [0xCB#8, 0x93#8]
  | .res_2_h => [0xCB#8, 0x94#8]
  | .res_2_l => [0xCB#8, 0x95#8]
  | .res_2_mhl => [0xCB#8, 0x96#8]
  | .res_2_a => [0xCB#8, 0x97#8]
  | .res_3_b => [0xCB#8, 0x98#8]
  | .res_3_c => [0xCB#8, 0x99#8]
  | .res_3_d => [0xCB#8, 0x9A#8]
  | .res_3_e => [0xCB#8, 0x9B#8]
  | .res_3_h => [0xCB#8, 0x9C#8]
  | .res_3_l => [0xCB#8, 0x9D#8]
  | .res_3_mhl => [0xCB#8, 0x9E#8]
  | .res_3_a => [0xCB#8, 0x9F#8]
  | .res_4_b => [0xCB#8, 0xA0#8]
  | .res_4_c => [0xCB#8, 0xA1#8]
  | .res_4_d => [0xCB#8, 0xA2#8]
  | .res_4_e => [0xCB#8, 0xA3#8]
  | .res_4_h => [0xCB#8, 0xA4#8]
  | .res_4_l => [0xCB#8, 0xA5#8]
  | .res_4_mhl => [0xCB#8, 0xA6#8]
  | .res_4_a => [0xCB#8, 0xA7#8]
  | .res_5_b => [0xCB#8, 0xA8#8]
  | .res_5_c => [0xCB#8, 0xA9#8]
  | .res_5_d => [0xCB#8, 0xAA#8]
  | .res_5_e => [0xCB#8, 0xAB#8]
  | .res_5_h => [0xCB#8, 0xAC#8]
  | .res_5_l => [0xCB#8, 0xAD#8]
  | .res_5_mhl => [0xCB#8, 0xAE#8]
  | .res_5_a => [0xCB#8, 0xAF#8]
  | .res_6_b => [0xCB#8, 0xB0#8]
  | .res_6_c => [0xCB#8, 0xB1#8]
  | .res_6_d => [0xCB#8, 0xB2#8]
  | .res_6_e => [0xCB#8, 0xB3#8]
  | .res_6_h => [0xCB#8, 0xB4#8]
  | .res_6_l => [0xCB#8, 0xB5#8]
  | .res_6_mhl => [0xCB#8, 0xB6#8]
  | .res_6_a => [0xCB#8, 0xB7#8]
  | .res_7_b => [0xCB#8, 0xB8#8]
  | .res_7_c => [0xCB#8, 0xB9#8]
  | .res_7_d => [0xCB#8, 0xBA#8]
  | .res_7_e => [0xCB#8, 0xBB#8]
  | .res_7_h => [0xCB#8, 0xBC#8]
  | .res_7_l => [0xCB#8, 0xBD#8]
  | .res_7_mhl => [0xCB#8, 0xBE#8]
  | .res_7_a => [0xCB#8, 0xBF#8]
  | .set_0_b => [0xCB#8, 0xC0#8]
  | .set_0_c => [0xCB#8, 0xC1#8]
  | .set_0_d => [0xCB#8, 0xC2#8]
  | .set_0_e => [0xCB#8, 0xC3#8]
  | .set_0_h => [0xCB#8, 0xC4#8]
  | .set_0_l => [0xCB#8, 0xC5#8]
  | .set_0_mhl => [0xCB#8, 0xC6#8]
  | .set_0_a => [0xCB#8, 0xC7#8]
  | .set_1_b => [0xCB#8, 0xC8#8]
  | .set_1_c => [0xCB#8, 0xC9#8]
  | .set_1_d => [0xCB#8, 0xCA#8]
  | .set_1_e => [0xCB#8, 0xCB#8]
  | .set_1_h => [0xCB#8, 0xCC#8]
  | .set_1_l => [0xCB#8, 0xCD#8]
  | .set_1_mhl => [0xCB#8, 0xCE#8]
  | .set_1_a => [0xCB#8, 0xCF#8]
  | .set_2_b => [0xCB#8, 0xD0#8]
  | .set_2_c => [0xCB#8, 0xD1#8]
  | .set_2_d => [0xCB#8, 0xD2#8]
  | .set_2_e => [0xCB#8, 0xD3#8]
  | .set_2_h => [0xCB#8, 0xD4#8]
  | .set_2_l => [0xCB#8, 0xD5#8]
  | .set_2_mhl => [0xCB#8, 0xD6#8]
  | .set_2_a => [0xCB#8, 0xD7#8]
  | .set_3_b => [0xCB#8, 0xD8#8]
  | .set_3_c => [0xCB#8, 0xD9#8]
  | .set_3_d => [0xCB#8, 0xDA#8]
  | .set_3_e => [0xCB#8, 0xDB#8]
  | .set_3_h => [0xCB#8, 0xDC#8]
  | .set_3_l => [0xCB#8, 0xDD#8]
  | .set_3_mhl => [0xCB#8, 0xDE#8]
  | .set_3_a => [0xCB#8, 0xDF#8]
  | .set_4_b => [0xCB#8, 0xE0#8]
  | .set_4_c => [0xCB#8, 0xE1#8]
  | .set_4_d => [0xCB#8, 0xE2#8]
  | .set_4_e => [0xCB#8, 0xE3#8]
  | .set_4_h => [0xCB#8, 0xE4#8]
  | .set_4_l => [0xCB#8, 0xE5#8]
  | .set_4_mhl => [0xCB#8, 0xE6#8]
  | .set_4_a => [0xCB#8, 0xE7#8]
  | .set_5_b => [0xCB#8, 0xE8#8]
  | .set_5_c => [0xCB#8, 0xE9#8]
  | .set_5_d => [0xCB#8, 0xEA#8]
  | .set_5_e => [0xCB#8, 0xEB#8]
  | .set_5_h => [0xCB#8, 0xEC#8]
  | .set_5_l => [0xCB#8, 0xED#8]
  | .set_5_mhl => [0xCB#8, 0xEE#8]
  | .set_5_a => [0xCB#8, 0xEF#8]
  | .set_6_b => [0xCB#8, 0xF0#8]
  | .set_6_c => [0xCB#8, 0xF1#8]
  | .set_6_d => [0xCB#8, 0xF2#8]
  | .set_6_e => [0xCB#8, 0xF3#8]
  | .set_6_h => [0xCB#8, 0xF4#8]
  | .set_6_l => [0xCB#8, 0xF5#8]
  | .set_6_mhl => [0xCB#8, 0xF6#8]
  | .set_6_a => [0xCB#8, 0xF7#8]
  | .set_7_b => [0xCB#8, 0xF8#8]
  | .set_7_c => [0xCB#8, 0xF9#8]
  | .set_7_d => [0xCB#8, 0xFA#8]
  | .set_7_e => [0xCB#8, 0xFB#8]
  | .set_7_h => [0xCB#8, 0xFC#8]
  | .set_7_l => [0xCB#8, 0xFD#8]
  | .set_7_mhl => [0xCB#8, 0xFE#8]
  | .set_7_a => [0xCB#8, 0xFF#8]

/-- The bytes, in fetch order, of an instruction whose bits are `w` as spec/opcode_table.json numbers them,
zeros above `nbits`, three bytes in all. A row of 16 bits is a CB row and its number is
`(0xCB << 8) | op2` (30_encoding.md, opening words); in every other number the first byte is the lowest (log 9). -/
def tableBytes (nbits w : Nat) : List Byte :=
  let v := w % 2 ^ nbits
  if nbits = 16 ∧ v / 256 = 0xCB then [0xCB#8, BitVec.ofNat 8 v, 0#8]
  else [BitVec.ofNat 8 v, BitVec.ofNat 8 (v / 256), BitVec.ofNat 8 (v / 65536)]

/-- The instruction the decoder reads from an instruction whose bits are `w` (log 9). -/
def decodeTableWord (nbits w : Nat) : Option Instr :=
  match decode (tableBytes nbits w) with
  | .ok r => some r.1
  | .error _ => none

end Sys2Proof
end

