-- ==== Sys2Proof/Config.lean ====
section
/-! DEFINITION. What is fixed for this hardware (00_scope.md R8) and the free value (20_memory.md R88). -/

namespace Sys2Proof.Config

/-- `CLK`, cycles per second (R8, D1). -/
def clk : Nat := 4194304
/-- `BANK_SIZE` (R8). -/
def bankSize : Nat := 16384
/-- `VBLANK_PERIOD` in cycles (R8, D15). -/
def vblankPeriod : Nat := 70224
/-- `SEQ_PERIOD`, the 256 Hz tick in cycles (R8). -/
def seqPeriod : Nat := 16384
/-- `HALT_STEP_CYCLES` (R8, D17). -/
def haltStepCycles : Nat := 4
/-- `INTR_DISPATCH_CYCLES` (R8, D11). -/
def intrDispatchCycles : Nat := 0
/-- `TIMER_VECTOR` (R8, 90_conflicts.md C2). -/
def timerVector : Word := 0x48#16
/-- `VBLANK_VECTOR` (R8). -/
def vblankVector : Word := 0x40#16
/-- `MASTER_VOL_MAX` (R8, D33). -/
def masterVolMax : Int := 65536
/-- `IMPULSE_PHASES` (R8). -/
def impulsePhases : Nat := 128
/-- `IMPULSE_TAPS` (R8). -/
def impulseTaps : Nat := 12
/-- `IMPULSE_UNIT`, the sum of every kernel row (R8, D34). -/
def impulseUnit : Int := 256

/-- What a memory cell that nothing lists reads as: RAM and the sound registers are 0x00 after `init`
(10_state.md R52, D23, D24). For ROM cells see log 1 (DESIGN CHOICE, unsafe). -/
def unlisted : Byte := 0#8

/-- `draw`: the byte a read of DIV or TIMA returns (20_memory.md R88), by the number of draws taken
before it. It has no body: nothing is known of any draw (log 4). -/
opaque draw : Nat → Byte

end Sys2Proof.Config

namespace Sys2Proof

/-- The values of `DAA_MODE` (41_alu8.md R224). -/
inductive DaaMode where
  | adjustOnly
  | hardware
  | refuse
  deriving DecidableEq, Repr

end Sys2Proof

namespace Sys2Proof.Config

/-- The default of the input `DAA_MODE`, this spec's value (R224, D8; log 5). -/
def daaMode : DaaMode := .adjustOnly

/-- Rows 0 to 15 of the table of R499. -/
def impulseRows0 : List (List Int) := [
  [0, 0, 0, 0, 0, 256, 0, 0, 0, 0, 0, 0],
  [0, 0, 0, 1, -2, 256, 2, -1, 0, 0, 0, 0],
  [0, 0, 0, 1, -4, 256, 4, -1, 0, 0, 0, 0],
  [0, 0, -1, 2, -5, 256, 5, -2, 1, 0, 0, 0],
  [0, 0, -1, 2, -7, 257, 7, -3, 1, 0, 0, 0],
  [0, 0, -1, 3, -8, 255, 9, -3, 1, 0, 0, 0],
  [0, 0, -1, 4, -10, 255, 11, -4, 1, 0, 0, 0],
  [0, 0, -1, 4, -12, 255, 13, -5, 2, 0, 0, 0],
  [0, 0, -2, 5, -13, 255, 15, -5, 2, -1, 0, 0],
  [0, 1, -2, 5, -15, 255, 17, -6, 2, -1, 0, 0],
  [0, 1, -2, 6, -16, 253, 20, -7, 2, -1, 0, 0],
  [0, 1, -2, 6, -17, 251, 22, -7, 3, -1, 0, 0],
  [0, 1, -2, 7, -19, 251, 24, -8, 3, -1, 0, 0],
  [0, 1, -3, 7, -20, 252, 26, -9, 3, -1, 0, 0],
  [0, 1, -3, 8, -22, 251, 28, -10, 4, -1, 0, 0],
  [0, 1, -3, 8, -23, 250, 30, -10, 4, -1, 0, 0]]

/-- Rows 16 to 31 of the table of R499. -/
def impulseRows1 : List (List Int) := [
  [0, 1, -3, 9, -24, 248, 33, -11, 4, -1, 0, 0],
  [0, 1, -3, 9, -25, 248, 35, -12, 4, -1, 0, 0],
  [0, 1, -3, 10, -26, 246, 37, -13, 5, -1, 0, 0],
  [0, 1, -4, 10, -27, 246, 39, -13, 5, -1, 0, 0],
  [0, 1, -4, 10, -29, 247, 42, -14, 5, -2, 0, 0],
  [0, 1, -4, 11, -30, 245, 45, -15, 5, -2, 0, 0],
  [0, 1, -4, 11, -31, 244, 47, -16, 6, -2, 0, 0],
  [0, 1, -4, 12, -32, 242, 49, -16, 6, -2, 0, 0],
  [0, 1, -4, 12, -32, 240, 52, -17, 6, -2, 0, 0],
  [0, 1, -4, 12, -33, 239, 54, -18, 7, -2, 0, 0],
  [0, 1, -4, 12, -34, 239, 56, -19, 7, -2, 0, 0],
  [0, 1, -4, 13, -35, 236, 59, -19, 7, -2, 0, 0],
  [0, 1, -5, 13, -36, 236, 62, -20, 7, -2, 0, 0],
  [0, 1, -5, 13, -37, 234, 65, -21, 8, -2, 0, 0],
  [0, 1, -5, 14, -37, 232, 67, -22, 8, -2, 0, 0],
  [0, 1, -5, 14, -38, 231, 70, -23, 8, -3, 1, 0]]

/-- Rows 32 to 47 of the table of R499. -/
def impulseRows2 : List (List Int) := [
  [0, 1, -5, 14, -39, 229, 72, -23, 9, -3, 1, 0],
  [0, 1, -5, 14, -39, 227, 75, -24, 9, -3, 1, 0],
  [0, 1, -5, 15, -40, 225, 78, -25, 9, -3, 1, 0],
  [0, 1, -5, 15, -40, 223, 80, -25, 9, -3, 1, 0],
  [0, 1, -5, 15, -41, 222, 82, -26, 10, -3, 1, 0],
  [0, 1, -5, 15, -41, 220, 85, -27, 10, -3, 1, 0],
  [0, 1, -5, 15, -42, 219, 88, -28, 10, -3, 1, 0],
  [0, 1, -5, 15, -42, 217, 90, -28, 10, -3, 1, 0],
  [0, 1, -5, 16, -42, 213, 93, -29, 11, -3, 1, 0],
  [0, 1, -5, 16, -43, 212, 96, -30, 11, -3, 1, 0],
  [0, 1, -5, 16, -43, 210, 99, -30, 11, -4, 1, 0],
  [0, 1, -5, 16, -43, 209, 101, -31, 11, -4, 1, 0],
  [0, 1, -6, 16, -44, 207, 105, -32, 12, -4, 1, 0],
  [0, 1, -6, 16, -44, 205, 107, -32, 12, -4, 1, 0],
  [0, 1, -6, 16, -44, 203, 110, -33, 12, -4, 1, 0],
  [0, 1, -6, 16, -44, 200, 113, -34, 13, -4, 1, 0]]

/-- Rows 48 to 63 of the table of R499. -/
def impulseRows3 : List (List Int) := [
  [0, 1, -6, 16, -44, 198, 115, -34, 13, -4, 1, 0],
  [0, 1, -6, 16, -44, 196, 118, -35, 13, -4, 1, 0],
  [0, 1, -6, 16, -44, 193, 121, -35, 13, -4, 1, 0],
  [0, 1, -6, 17, -44, 190, 124, -36, 13, -4, 1, 0],
  [0, 1, -6, 16, -44, 188, 126, -36, 14, -4, 1, 0],
  [0, 1, -6, 16, -44, 186, 129, -37, 14, -4, 1, 0],
  [0, 1, -5, 16, -44, 184, 132, -38, 14, -5, 1, 0],
  [0, 1, -6, 16, -44, 182, 135, -38, 14, -5, 1, 0],
  [0, 1, -5, 16, -44, 179, 138, -39, 14, -5, 1, 0],
  [0, 1, -5, 16, -44, 176, 140, -39, 15, -5, 1, 0],
  [0, 1, -5, 16, -44, 174, 143, -40, 15, -5, 1, 0],
  [0, 1, -5, 16, -43, 171, 145, -40, 15, -5, 1, 0],
  [0, 1, -5, 16, -43, 169, 148, -41, 15, -5, 1, 0],
  [0, 1, -5, 16, -43, 166, 151, -41, 15, -5, 1, 0],
  [0, 1, -5, 16, -43, 164, 153, -41, 15, -5, 1, 0],
  [0, 1, -5, 16, -42, 162, 155, -42, 15, -5, 1, 0]]

/-- Rows 64 to 79 of the table of R499. -/
def impulseRows4 : List (List Int) := [
  [0, 1, -5, 16, -42, 158, 158, -42, 16, -5, 1, 0],
  [0, 1, -5, 15, -42, 155, 162, -42, 16, -5, 1, 0],
  [0, 1, -5, 15, -41, 153, 164, -43, 16, -5, 1, 0],
  [0, 1, -5, 15, -41, 151, 166, -43, 16, -5, 1, 0],
  [0, 1, -5, 15, -41, 148, 169, -43, 16, -5, 1, 0],
  [0, 1, -5, 15, -40, 145, 171, -43, 16, -5, 1, 0],
  [0, 1, -5, 15, -40, 143, 174, -44, 16, -5, 1, 0],
  [0, 1, -5, 15, -39, 140, 176, -44, 16, -5, 1, 0],
  [0, 1, -5, 14, -39, 138, 179, -44, 16, -5, 1, 0],
  [0, 1, -5, 14, -38, 135, 182, -44, 16, -6, 1, 0],
  [0, 1, -5, 14, -38, 132, 184, -44, 16, -5, 1, 0],
  [0, 1, -4, 14, -37, 129, 186, -44, 16, -6, 1, 0],
  [0, 1, -4, 14, -36, 126, 188, -44, 16, -6, 1, 0],
  [0, 1, -4, 13, -36, 124, 190, -44, 17, -6, 1, 0],
  [0, 1, -4, 13, -35, 121, 193, -44, 16, -6, 1, 0],
  [0, 1, -4, 13, -35, 118, 196, -44, 16, -6, 1, 0]]

/-- Rows 80 to 95 of the table of R499. -/
def impulseRows5 : List (List Int) := [
  [0, 1, -4, 13, -34, 115, 198, -44, 16, -6, 1, 0],
  [0, 1, -4, 13, -34, 113, 200, -44, 16, -6, 1, 0],
  [0, 1, -4, 12, -33, 110, 203, -44, 16, -6, 1, 0],
  [0, 1, -4, 12, -32, 107, 205, -44, 16, -6, 1, 0],
  [0, 1, -4, 12, -32, 105, 207, -44, 16, -6, 1, 0],
  [0, 1, -4, 11, -31, 101, 209, -43, 16, -5, 1, 0],
  [0, 1, -4, 11, -30, 99, 210, -43, 16, -5, 1, 0],
  [0, 1, -3, 11, -30, 96, 212, -43, 16, -5, 1, 0],
  [0, 1, -3, 11, -29, 93, 213, -42, 16, -5, 1, 0],
  [0, 1, -3, 10, -28, 90, 217, -42, 15, -5, 1, 0],
  [0, 1, -3, 10, -28, 88, 219, -42, 15, -5, 1, 0],
  [0, 1, -3, 10, -27, 85, 220, -41, 15, -5, 1, 0],
  [0, 1, -3, 10, -26, 82, 222, -41, 15, -5, 1, 0],
  [0, 1, -3, 9, -25, 80, 223, -40, 15, -5, 1, 0],
  [0, 1, -3, 9, -25, 78, 225, -40, 15, -5, 1, 0],
  [0, 1, -3, 9, -24, 75, 227, -39, 14, -5, 1, 0]]

/-- Rows 96 to 111 of the table of R499. -/
def impulseRows6 : List (List Int) := [
  [0, 1, -3, 9, -23, 72, 229, -39, 14, -5, 1, 0],
  [0, 1, -3, 8, -23, 70, 231, -38, 14, -5, 1, 0],
  [0, 0, -2, 8, -22, 67, 232, -37, 14, -5, 1, 0],
  [0, 0, -2, 8, -21, 65, 234, -37, 13, -5, 1, 0],
  [0, 0, -2, 7, -20, 62, 236, -36, 13, -5, 1, 0],
  [0, 0, -2, 7, -19, 59, 236, -35, 13, -4, 1, 0],
  [0, 0, -2, 7, -19, 56, 239, -34, 12, -4, 1, 0],
  [0, 0, -2, 7, -18, 54, 239, -33, 12, -4, 1, 0],
  [0, 0, -2, 6, -17, 52, 240, -32, 12, -4, 1, 0],
  [0, 0, -2, 6, -16, 49, 242, -32, 12, -4, 1, 0],
  [0, 0, -2, 6, -16, 47, 244, -31, 11, -4, 1, 0],
  [0, 0, -2, 5, -15, 45, 245, -30, 11, -4, 1, 0],
  [0, 0, -2, 5, -14, 42, 247, -29, 10, -4, 1, 0],
  [0, 0, -1, 5, -13, 39, 246, -27, 10, -4, 1, 0],
  [0, 0, -1, 5, -13, 37, 246, -26, 10, -3, 1, 0],
  [0, 0, -1, 4, -12, 35, 248, -25, 9, -3, 1, 0]]

/-- Rows 112 to 127 of the table of R499. -/
def impulseRows7 : List (List Int) := [
  [0, 0, -1, 4, -11, 33, 248, -24, 9, -3, 1, 0],
  [0, 0, -1, 4, -10, 30, 250, -23, 8, -3, 1, 0],
  [0, 0, -1, 4, -10, 28, 251, -22, 8, -3, 1, 0],
  [0, 0, -1, 3, -9, 26, 252, -20, 7, -3, 1, 0],
  [0, 0, -1, 3, -8, 24, 251, -19, 7, -2, 1, 0],
  [0, 0, -1, 3, -7, 22, 251, -17, 6, -2, 1, 0],
  [0, 0, -1, 2, -7, 20, 253, -16, 6, -2, 1, 0],
  [0, 0, -1, 2, -6, 17, 255, -15, 5, -2, 1, 0],
  [0, 0, -1, 2, -5, 15, 255, -13, 5, -2, 0, 0],
  [0, 0, 0, 2, -5, 13, 255, -12, 4, -1, 0, 0],
  [0, 0, 0, 1, -4, 11, 255, -10, 4, -1, 0, 0],
  [0, 0, 0, 1, -3, 9, 255, -8, 3, -1, 0, 0],
  [0, 0, 0, 1, -3, 7, 257, -7, 2, -1, 0, 0],
  [0, 0, 0, 1, -2, 5, 256, -5, 2, -1, 0, 0],
  [0, 0, 0, 0, -1, 4, 256, -4, 1, 0, 0, 0],
  [0, 0, 0, 0, -1, 2, 256, -2, 1, 0, 0, 0]]

/-- The default of the input `IMPULSE_TABLE`, the spec's value (61_sound.md R490, R499, D34; log 6). -/
def impulseTable : List (List Int) :=
  impulseRows0 ++ impulseRows1 ++ impulseRows2 ++ impulseRows3 ++
  impulseRows4 ++ impulseRows5 ++ impulseRows6 ++ impulseRows7

end Sys2Proof.Config
end

