-- ==== Sys2Proof/Machine/State.lean ====
section
/-! DEFINITION. The state of one session (00_scope.md R20), its reset, and the ways a step can stop. -/

namespace Sys2Proof.Machine

/-- Bytes by key, in one canonical form: keys strictly rising, no byte equal to `Config.unlisted`. -/
abbrev Memory := List Host.Cell

/-- The canonical form of a memory. -/
abbrev Memory.wf (m : Memory) : Prop :=
  m.Pairwise (fun x y => x.1 < y.1) ∧ ∀ c ∈ m, c.2 ≠ Config.unlisted

/-- `stop_reason` (10_state.md R39, 60_exceptions.md R353). -/
inductive StopReason where
  | illegalOpcode (opcode : Byte) (address : Word)
  | haltLockup
  | stopInstruction
  deriving DecidableEq, Repr

/-- The register file and the control flags (10_state.md R30-R39). `stopped` is `stopReason` not none (log 7). -/
structure Cpu where
  a : Byte
  f : Byte
  b : Byte
  c : Byte
  d : Byte
  e : Byte
  h : Byte
  l : Byte
  sp : Word
  pc : Word
  ime : Bool
  halted : Bool
  stopReason : Option StopReason
  deriving DecidableEq, Repr

/-- The memories and the memory-mapped registers outside the sound unit (10_state.md R41, R42, R45, R46).
`rom` is keyed by image offset, `mem` (extram, wram, hram) by bus address. -/
structure Bus where
  rom : Memory
  bankCount : Nat
  romBank : Nat
  mem : Memory
  ie : Byte
  tma : Byte
  tac : Byte
  deriving DecidableEq, Repr

/-- The two countdowns (10_state.md R44). -/
structure Timers where
  vblankCtr : Int
  timerCtr : Int
  timerPeriod : Nat
  deriving DecidableEq, Repr

/-- The fields every channel has (61_sound.md R420). -/
structure Voice where
  divTc : Nat
  divCtr : Nat
  volInit : Nat
  volume : Nat
  len : Nat
  lenEnable : Bool
  left : Bool
  right : Bool
  running : Bool
  level : Int
  deriving DecidableEq, Repr

/-- The envelope of channels 1, 2 and 4 (61_sound.md R420); `dir` is true for up. -/
structure Envelope where
  dir : Bool
  period : Nat
  ctr : Nat
  deriving DecidableEq, Repr

/-- A pulse channel, 1 or 2 (61_sound.md R420). -/
structure Pulse where
  voice : Voice
  freq : BitVec 11
  duty : BitVec 2
  dutyTc : Nat
  dutyPos : Nat
  env : Envelope
  deriving DecidableEq, Repr

/-- The sweep of channel 1 (61_sound.md R420). -/
structure Sweep where
  period : Nat
  dir : Bool
  shift : Nat
  ctr : Nat
  deriving DecidableEq, Repr

/-- The wave channel, 3 (61_sound.md R420). -/
structure Wave where
  voice : Voice
  freq : BitVec 11
  wavePos : Nat
  enable : Bool
  deriving DecidableEq, Repr

/-- The noise channel, 4 (61_sound.md R420, R455). -/
structure Noise where
  voice : Voice
  env : Envelope
  lfsr : BitVec 15
  narrow : Bool
  r : Nat
  s : Nat
  deriving DecidableEq, Repr

/-- The sound unit and the resampler (61_sound.md R420, R421); `regs` is `sndreg`, keyed by the low
address byte (10_state.md R47). -/
structure Sound where
  regs : Memory
  ch1 : Pulse
  sweep : Sweep
  ch2 : Pulse
  ch3 : Wave
  ch4 : Noise
  masterVolume : Int
  seqCtr : Nat
  lastL : Int
  lastR : Int
  pos : Nat
  impL : List Int
  impR : List Int
  accL : Int
  accR : Int
  out : List Int
  deriving DecidableEq, Repr

/-- A diagnostic to the host (20_memory.md R101). -/
inductive Diagnostic where
  | bankClamp
  | unimplementedRead (addr : Word)
  | unimplementedWrite (addr : Word) (value : Byte)
  | illegalOpcode (opcode : Byte) (addr : Word)
  deriving DecidableEq, Repr

/-- What the core sends to the host: `on_io_write` (60_exceptions.md R384), a filled buffer
(61_sound.md R492), a diagnostic (60_exceptions.md R391). -/
inductive HostEvent where
  | ioWrite (cycles : Nat) (addr : Word) (value : Byte)
  | pcm (samples : List Int)
  | diag (d : Diagnostic)
  deriving DecidableEq, Repr

/-- One channel of the introspection snapshot (60_exceptions.md R385). -/
structure ChannelView where
  mute : Bool
  volume : Nat
  divTc : Nat
  audible : Bool
  deriving DecidableEq, Repr

/-- The introspection snapshot (60_exceptions.md R385). -/
structure Snapshot where
  ch1 : ChannelView
  ch2 : ChannelView
  ch3 : ChannelView
  ch4 : ChannelView
  deriving DecidableEq, Repr

/-- The inputs of a model instance (00_scope.md R9) that outlive `init`, and what the core has sent to the
host. `daaMode` and `impulseTable` are `DAA_MODE` and `IMPULSE_TABLE` (logs 5 and 6). `events` is newest first
and no rule reads it (log 11); `bankClampWarned` is the warn-once mark of 20_memory.md R101. -/
structure HostSide where
  daaMode : DaaMode
  impulseTable : List (List Int)
  sampleRate : Option Nat
  outFrames : Option Nat
  mute1 : Bool
  mute2 : Bool
  mute3 : Bool
  mute4 : Bool
  masterFade : Int
  observer : Bool
  callback : Bool
  snapshot : Snapshot
  events : List HostEvent
  bankClampWarned : Bool
  deriving DecidableEq, Repr

/-- One session. `sessionCycles` is 10_state.md R48; `cycles` is the count the last CPU `step()` returned
(00_scope.md R11, log 17); `draws` counts the free draws taken (log 4). -/
structure State where
  cpu : Cpu
  bus : Bus
  timers : Timers
  snd : Sound
  host : HostSide
  sessionCycles : Nat
  cycles : Nat
  draws : Nat
  deriving DecidableEq, Repr

/-- The one way a step stops. -/
inductive Fault where
  /-- Raised by `step` on every call while `stopped = 1` (60_exceptions.md R351): the sentinel
  `Fatal(stop_reason)`, with no state change. Safe: the spec itself ends the session here. -/
  | stopped (reason : StopReason)
  deriving DecidableEq, Repr

/-- What has no meaning. -/
inductive Refusal where
  /-- Raised by an arm of `exec` whose instruction has no meaning yet. Safe. -/
  | notModelled (mnemonic : String)
  /-- Raised by DAA under `DAA_MODE = refuse` (41_alu8.md R224); the mode is an input of the
  instance (00_scope.md R9), `adjust_only` unless the instance says otherwise. Safe: the spec gives DAA no meaning there. -/
  | daaRefused
  /-- Raised by `init` for a size that is 0 or no multiple of 16384 or not the image's (70_reset_and_hazards.md R520). Safe. -/
  | badRomSize
  /-- Raised by `platformStep` before `set_sample_rate` and `set_output_buffer`, or with a rate outside
  `0 < SAMPLE_RATE < CLK` (93_implementation_defined.md I11). Safe. -/
  | resamplerNotConfigured
  deriving DecidableEq, Repr

/-- The outcome type of every meaning. -/
abbrev Out := Host.Outcome State Fault Refusal

/-- The CPU after `init` (10_state.md R52). -/
def Cpu.reset : Cpu :=
  ⟨0, 0, 0, 0, 0, 0, 0, 0, 0, 0, false, false, none⟩

/-- The bus after `init` with an image `rom` of `bankCount` banks (10_state.md R52). -/
def Bus.reset (rom : Memory) (bankCount : Nat) : Bus :=
  ⟨rom, bankCount, min 1 (bankCount - 1), [], 0, 0, 0⟩

/-- The countdowns after `init` (10_state.md R52). -/
def Timers.reset : Timers :=
  ⟨Config.vblankPeriod, 0, 0⟩

/-- A channel's common fields after `init` (61_sound.md R425). -/
def Voice.reset (divTc divCtr : Nat) : Voice :=
  ⟨divTc, divCtr, 0, 0, 0, false, false, false, false, 0⟩

/-- An envelope after `init` (61_sound.md R425). -/
def Envelope.reset : Envelope :=
  ⟨false, 0, 0⟩

/-- A pulse channel after `init` (61_sound.md R425). -/
def Pulse.reset : Pulse :=
  ⟨Voice.reset 2048 (4 * 2048), 0, 0, 1, 0, Envelope.reset⟩

/-- Channel 3 after `init` (61_sound.md R425). -/
def Wave.reset : Wave :=
  ⟨Voice.reset 2048 (2 * 2048), 0, 0, false⟩

/-- Channel 4 after `init` (61_sound.md R425). -/
def Noise.reset : Noise :=
  ⟨Voice.reset 8 8, Envelope.reset, 0, false, 0, 0⟩

/-- The impulse buffer's entries per side for `OUT_FRAMES` frames (61_sound.md R491, 90_conflicts.md C3);
none while `OUT_FRAMES` has no value. -/
def impulseZeros : Option Nat → List Int
  | none => []
  | some n => List.replicate (n + Config.impulseTaps) 0

/-- The cleared PCM buffer for `OUT_FRAMES` frames (61_sound.md R421, R491). -/
def pcmZeros : Option Nat → List Int
  | none => []
  | some n => List.replicate (2 * n) 0

/-- The sound unit after `init` (61_sound.md R425). -/
def Sound.reset (outFrames : Option Nat) : Sound :=
  { regs := [], ch1 := Pulse.reset, sweep := ⟨0, false, 0, 0⟩, ch2 := Pulse.reset,
    ch3 := Wave.reset, ch4 := Noise.reset, masterVolume := Config.masterVolMax,
    seqCtr := Config.seqPeriod, lastL := 0, lastR := 0, pos := 0,
    impL := impulseZeros outFrames, impR := impulseZeros outFrames,
    accL := 0, accR := 0, out := pcmZeros outFrames }

/-- The snapshot before any platform step has refreshed it: the reset channels' view (DESIGN CHOICE, log 13). -/
def Snapshot.reset : Snapshot :=
  ⟨⟨false, 0, 2048, false⟩, ⟨false, 0, 2048, false⟩, ⟨false, 0, 2048, false⟩, ⟨false, 0, 8, false⟩⟩

/-- The host's side before the host has called anything (DESIGN CHOICE, log 12): `SAMPLE_RATE` and
`OUT_FRAMES` have no value (70_reset_and_hazards.md R525). `DAA_MODE` and `IMPULSE_TABLE` have the spec's
defaults (41_alu8.md R224, 61_sound.md R490). -/
def HostSide.reset : HostSide :=
  { daaMode := Config.daaMode, impulseTable := Config.impulseTable, sampleRate := none, outFrames := none,
    mute1 := false, mute2 := false, mute3 := false,
    mute4 := false, masterFade := 0, observer := false, callback := false,
    snapshot := Snapshot.reset, events := [], bankClampWarned := false }

/-- The machine right after `init` (70_reset_and_hazards.md R520, 10_state.md R52) with an image of
two banks that lists no byte (DESIGN CHOICE, log 1). -/
def State.reset : State :=
  { cpu := Cpu.reset, bus := Bus.reset [] 2, timers := Timers.reset, snd := Sound.reset none,
    host := HostSide.reset, sessionCycles := 0, cycles := 0, draws := 0 }

end Sys2Proof.Machine
end

