-- ==== Sys2Proof/Machine/Operands.lean ====
section
/-! DEFINITION. The register operands: single registers, pairs, sign extension and the control flags
(00_scope.md R11, 10_state.md R30-R37). -/

namespace Sys2Proof.Machine

/-- `reg8[i]` for a register (R11). -/
def State.reg8 (s : State) : Reg8 → Byte
  | .b => s.cpu.b
  | .c => s.cpu.c
  | .d => s.cpu.d
  | .e => s.cpu.e
  | .h => s.cpu.h
  | .l => s.cpu.l
  | .a => s.cpu.a

/-- `reg8[i] <- v` for a register (R11). -/
def State.setReg8 (s : State) (r : Reg8) (v : Byte) : State :=
  { s with cpu :=
    match r with
    | .b => { s.cpu with b := v }
    | .c => { s.cpu with c := v }
    | .d => { s.cpu with d := v }
    | .e => { s.cpu with e := v }
    | .h => { s.cpu with h := v }
    | .l => { s.cpu with l := v }
    | .a => { s.cpu with a := v } }

/-- The pair BC: the first-named register is the high byte (10_state.md R31). -/
def State.bc (s : State) : Word := wordOf s.cpu.c s.cpu.b
/-- The pair DE (R31). -/
def State.de (s : State) : Word := wordOf s.cpu.e s.cpu.d
/-- The pair HL (R31). -/
def State.hl (s : State) : Word := wordOf s.cpu.l s.cpu.h
/-- The pair AF (R31). -/
def State.af (s : State) : Word := wordOf s.cpu.f s.cpu.a

/-- Write both bytes of HL (R31). -/
def State.setHl (s : State) (v : Word) : State :=
  { s with cpu := { s.cpu with h := hiByte v, l := loByte v } }

/-- Write SP (10_state.md R32). -/
def State.setSp (s : State) (v : Word) : State :=
  { s with cpu := { s.cpu with sp := v } }

/-- `pc <- target` (R11). -/
def State.setPc (s : State) (v : Word) : State :=
  { s with cpu := { s.cpu with pc := v } }

/-- Write `ime` (10_state.md R37). -/
def State.setIme (s : State) (v : Bool) : State :=
  { s with cpu := { s.cpu with ime := v } }

/-- Write `halted` (10_state.md R38). -/
def State.setHalted (s : State) (v : Bool) : State :=
  { s with cpu := { s.cpu with halted := v } }

/-- The one door to F: `F <- v & 0xF0` (10_state.md R35). -/
def State.setF (s : State) (v : Byte) : State :=
  { s with cpu := { s.cpu with f := v &&& 0xF0#8 } }

/-- `reg16[p]` (R11). -/
def State.pair (s : State) : Pair → Word
  | .bc => s.bc
  | .de => s.de
  | .hl => s.hl
  | .sp => s.cpu.sp

/-- `reg16[p] <- v` (R11). -/
def State.setPair (s : State) (p : Pair) (v : Word) : State :=
  match p with
  | .bc => { s with cpu := { s.cpu with b := hiByte v, c := loByte v } }
  | .de => { s with cpu := { s.cpu with d := hiByte v, e := loByte v } }
  | .hl => s.setHl v
  | .sp => s.setSp v

/-- `reg16s[p]` (R11). -/
def State.stackPair (s : State) : StackPair → Word
  | .bc => s.bc
  | .de => s.de
  | .hl => s.hl
  | .af => s.af

/-- Write a stack pair; AF goes through the door to F (40_loads.md R172). -/
def State.setStackPair (s : State) (p : StackPair) (v : Word) : State :=
  match p with
  | .bc => s.setPair .bc v
  | .de => s.setPair .de v
  | .hl => s.setHl v
  | .af => (s.setReg8 .a (hiByte v)).setF (loByte v)

/-- `cycles += n`: the count the current `step()` returns (R11). -/
def State.charge (s : State) (n : Nat) : State :=
  { s with cycles := n }

/-- `sext_16` (R11). -/
def sext16 (v : Byte) : Word := v.signExtend 16

/-- `0xFF00 + n`, a high-page address (40_loads.md R149). -/
def highPage (n : Byte) : Word := wordOf n 0xFF#8

end Sys2Proof.Machine
end

