-- ==== Sys2Proof/Machine/Memory.lean ====
section
/-! DEFINITION. Reading, writing and building a memory; every operation keeps the canonical form. -/

namespace Sys2Proof.Machine

/-- The byte at a key. -/
def Memory.read : Memory → Nat → Byte
  | [], _ => Config.unlisted
  | (k, v) :: m, a => if k = a then v else Memory.read m a

/-- Put a listed byte in its place. -/
def Memory.insert : Memory → Nat → Byte → Memory
  | [], a, v => [(a, v)]
  | (k, w) :: m, a, v => if a < k then (a, v) :: (k, w) :: m else (k, w) :: Memory.insert m a v

/-- Take a key out. -/
def Memory.erase (m : Memory) (a : Nat) : Memory :=
  m.filter (fun c => c.1 != a)

/-- Store a byte: a byte equal to what an unlisted key reads as is not listed. -/
def Memory.write (m : Memory) (a : Nat) (v : Byte) : Memory :=
  if v = Config.unlisted then Memory.erase m a else Memory.insert (Memory.erase m a) a v

/-- The memory that holds a list of bytes from key `n` up. -/
def Memory.ofBytes : Nat → List Byte → Memory
  | _, [] => []
  | n, b :: bs =>
    if b = Config.unlisted then Memory.ofBytes (n + 1) bs else (n, b) :: Memory.ofBytes (n + 1) bs

end Sys2Proof.Machine
end

