-- ==== Sys2Proof/Machine/Channels.lean ====
section
/-! DEFINITION. The four channels: register write actions, trigger, divider, tick steps and output
(61_sound.md R431-R460). -/

namespace Sys2Proof.Machine

/-- `v[hi:lo]` as a number, `n` bits from bit `lo` (00_scope.md R10). -/
def field (v : Byte) (lo n : Nat) : Nat := (v.toNat / 2 ^ lo) % 2 ^ n

/-- `div_tc` of a frequency value: `2048 - freq` (61_sound.md R434). -/
def freqPeriod (freq : BitVec 11) : Nat := 2048 - freq.toNat

/-- `NDIV(r)` (61_sound.md R439). -/
def noiseDivisor (r : Nat) : Nat := if r = 0 then 8 else 16 * r

/-- The duty thresholds in eighths (61_sound.md R432). -/
def dutyThreshold (duty : BitVec 2) : Nat :=
  match duty.toNat with
  | 0 => 1
  | 1 => 2
  | 2 => 4
  | _ => 6

/-! ### Registers -/

/-- NR11, NR21: duty and length load (R432). -/
def Pulse.writeDutyLen (p : Pulse) (v : Byte) : Pulse :=
  let duty := v.extractLsb' 6 2
  { p with duty := duty, dutyTc := dutyThreshold duty, voice := { p.voice with len := 64 - field v 0 6 } }

/-- NRx2: initial volume, of a channel's common fields (R433). -/
def Voice.writeVolume (c : Voice) (v : Byte) : Voice :=
  { c with volInit := field v 4 4 }

/-- NRx2: envelope direction and period (R433). -/
def Envelope.write (e : Envelope) (v : Byte) : Envelope :=
  { e with dir := v.getLsbD 3, period := field v 0 3 }

/-- NR12, NR22 (R433). -/
def Pulse.writeEnvelope (p : Pulse) (v : Byte) : Pulse :=
  { p with voice := p.voice.writeVolume v, env := p.env.write v }

/-- The frequency after a write to its low byte: `(freq & 0x700) | v` (R434). -/
def freqLow (freq : BitVec 11) (v : Byte) : BitVec 11 :=
  (freq &&& 0x700#11) ||| v.setWidth 11

/-- The frequency after a write to its high bits: `(freq & 0x0FF) | (v[2:0] << 8)` (R435). -/
def freqHigh (freq : BitVec 11) (v : Byte) : BitVec 11 :=
  (freq &&& 0x0FF#11) ||| (v.setWidth 11 <<< 8)

/-- NR13, NR23 (R434). -/
def Pulse.writeFreqLow (p : Pulse) (v : Byte) : Pulse :=
  let freq := freqLow p.freq v
  { p with freq := freq, voice := { p.voice with divTc := freqPeriod freq } }

/-- NR33 (R434). -/
def Wave.writeFreqLow (p : Wave) (v : Byte) : Wave :=
  let freq := freqLow p.freq v
  { p with freq := freq, voice := { p.voice with divTc := freqPeriod freq } }

/-- `reload(ch)` of a pulse channel (R447). -/
def Pulse.reload (p : Pulse) : Nat := 4 * p.voice.divTc
/-- `reload(ch)` of channel 3 (R447). -/
def Wave.reload (p : Wave) : Nat := 2 * p.voice.divTc
/-- `reload(ch)` of channel 4 (R447). -/
def Noise.reload (p : Noise) : Nat := p.voice.divTc

/-- The part of a trigger every channel has: `running`, an empty length, the divider, the volume (R443). -/
def Voice.trigger (c : Voice) (fullLen reload : Nat) : Voice :=
  { c with running := true, len := (if c.len = 0 then fullLen else c.len), divCtr := reload,
           volume := c.volInit }

/-- The envelope's part of a trigger (R443). -/
def Envelope.trigger (e : Envelope) : Envelope := { e with ctr := e.period * 4 }

/-- `trigger(ch)` for ch 1 and 2; channel 1's sweep is `Sweep.trigger` (R443). -/
def Pulse.trigger (p : Pulse) : Pulse :=
  { p with voice := p.voice.trigger 64 p.reload, env := p.env.trigger }

/-- The sweep's part of `trigger(1)` (R443). -/
def Sweep.trigger (w : Sweep) : Sweep := { w with ctr := w.period * 2 }

/-- `trigger(3)` (R443). -/
def Wave.trigger (p : Wave) : Wave :=
  { p with voice := p.voice.trigger 256 p.reload, wavePos := 0 }

/-- `trigger(4)` (R443). -/
def Noise.trigger (p : Noise) : Noise :=
  { p with voice := p.voice.trigger 64 p.reload, env := p.env.trigger, lfsr := 0 }

/-- NR14, NR24 before the trigger test (R435). -/
def Pulse.writeFreqHigh (p : Pulse) (v : Byte) : Pulse :=
  let freq := freqHigh p.freq v
  { p with freq := freq, voice := { p.voice with divTc := freqPeriod freq, lenEnable := v.getLsbD 6 } }

/-- NR34 before the trigger test (R435). -/
def Wave.writeFreqHigh (p : Wave) (v : Byte) : Wave :=
  let freq := freqHigh p.freq v
  { p with freq := freq, voice := { p.voice with divTc := freqPeriod freq, lenEnable := v.getLsbD 6 } }

/-- NR14, NR24 (R435). -/
def Pulse.writeControl (p : Pulse) (v : Byte) : Pulse :=
  if v.getLsbD 7 then (p.writeFreqHigh v).trigger else p.writeFreqHigh v

/-- NR34 (R435). -/
def Wave.writeControl (p : Wave) (v : Byte) : Wave :=
  if v.getLsbD 7 then (p.writeFreqHigh v).trigger else p.writeFreqHigh v

/-- NR10 (R431). -/
def Sweep.write (w : Sweep) (v : Byte) : Sweep :=
  { w with period := field v 4 3, dir := v.getLsbD 3, shift := field v 0 3 }

/-- NR14's effect on the sweep: reloaded by a trigger (R431, R443). -/
def Sweep.writeControl (w : Sweep) (v : Byte) : Sweep :=
  if v.getLsbD 7 then w.trigger else w

/-- NR31 (R437). -/
def Wave.writeLen (p : Wave) (v : Byte) : Wave :=
  { p with voice := { p.voice with len := 256 - v.toNat } }

/-- NR32: the volume-shift code acts at once (R438). -/
def Wave.writeCode (p : Wave) (v : Byte) : Wave :=
  { p with voice := { p.voice with volInit := field v 5 2, volume := field v 5 2 } }

/-- NR41 (R439). -/
def Noise.writeLen (p : Noise) (v : Byte) : Noise :=
  { p with voice := { p.voice with len := 64 - field v 0 6 } }

/-- NR42 (R433). -/
def Noise.writeEnvelope (p : Noise) (v : Byte) : Noise :=
  { p with voice := p.voice.writeVolume v, env := p.env.write v }

/-- NR43 (R439). -/
def Noise.writePoly (p : Noise) (v : Byte) : Noise :=
  { p with s := field v 4 4, narrow := v.getLsbD 3, r := field v 0 3,
           voice := { p.voice with divTc := noiseDivisor (field v 0 3) <<< field v 4 4 } }

/-- NR44 (R439). -/
def Noise.writeControl (p : Noise) (v : Byte) : Noise :=
  let p := { p with voice := { p.voice with lenEnable := v.getLsbD 6 } }
  if v.getLsbD 7 then p.trigger else p

/-- NR51's part for one channel: `right` from bit `n`, `left` from bit `n+4` (R440). -/
def Voice.route (c : Voice) (n : Nat) (v : Byte) : Voice :=
  { c with right := v.getLsbD n, left := v.getLsbD (n + 4) }

/-- NR52's part for one channel: bit 7 clear silences it (R441). -/
def Voice.power (c : Voice) (v : Byte) : Voice :=
  { c with running := c.running && v.getLsbD 7 }

/-! ### Dividers and the LFSR -/

/-- The divider and the duty position of a pulse channel over one cycle (R447). -/
def Pulse.divide (p : Pulse) : Pulse :=
  if p.voice.divCtr - 1 = 0 then
    { p with voice := { p.voice with divCtr := p.reload }, dutyPos := (p.dutyPos + 1) % 8 }
  else { p with voice := { p.voice with divCtr := p.voice.divCtr - 1 } }

/-- The divider and the wave position of channel 3 over one cycle (R447). -/
def Wave.divide (p : Wave) : Wave :=
  if p.voice.divCtr - 1 = 0 then
    { p with voice := { p.voice with divCtr := p.reload }, wavePos := (p.wavePos + 1) % 32 }
  else { p with voice := { p.voice with divCtr := p.voice.divCtr - 1 } }

/-- The register after one `lfsr_step()` (R456); the narrow feedback goes into bit 8 (90_conflicts.md C1). -/
def lfsrNext (narrow : Bool) (x : BitVec 15) : BitVec 15 :=
  let fb : Bool := !(x.getLsbD 14 ^^ x.getLsbD 13)
  let y : BitVec 15 := (x <<< 1) ||| (if fb then 1#15 else 0#15)
  if narrow then (y &&& ~~~(1#15 <<< 8)) ||| (if fb then 1#15 <<< 8 else 0#15) else y

/-- The noise channel's current output bit, `1 XOR lfsr[14]` (R458). -/
def noiseBit (x : BitVec 15) : Bool := !x.getLsbD 14

/-- The divider and the LFSR of channel 4 over one cycle (R447). -/
def Noise.divide (p : Noise) : Noise :=
  if p.voice.divCtr - 1 = 0 then
    { p with voice := { p.voice with divCtr := p.reload }, lfsr := lfsrNext p.narrow p.lfsr }
  else { p with voice := { p.voice with divCtr := p.voice.divCtr - 1 } }

/-! ### The tick -/

/-- Length step (R451). -/
def Voice.lengthStep (c : Voice) : Voice :=
  if c.lenEnable ∧ 0 < c.len then
    if c.len - 1 = 0 then { c with len := 0, volume := 0, running := false }
    else { c with len := c.len - 1 }
  else c

/-- The envelope counter's part of the envelope step (R452). -/
def Envelope.step (e : Envelope) : Envelope :=
  if 0 < e.period then { e with ctr := if e.ctr - 1 = 0 then e.period * 4 else e.ctr - 1 } else e

/-- The volume's part of the envelope step (R452). -/
def Voice.envelopeStep (c : Voice) (e : Envelope) : Voice :=
  if 0 < e.period ∧ e.ctr - 1 = 0 then
    if e.dir then { c with volume := if c.volume < 15 then c.volume + 1 else c.volume }
    else { c with volume := c.volume - 1 }
  else c

/-- Length, then envelope, of a pulse channel (R450). -/
def Pulse.tick (p : Pulse) : Pulse :=
  { p with voice := p.voice.lengthStep.envelopeStep p.env, env := p.env.step }

/-- The length step of channel 3, which has no envelope (R450, R452). -/
def Wave.tick (p : Wave) : Wave :=
  { p with voice := p.voice.lengthStep }

/-- Length, then envelope, of channel 4 (R450). -/
def Noise.tick (p : Noise) : Noise :=
  { p with voice := p.voice.lengthStep.envelopeStep p.env, env := p.env.step }

/-- The sweep counter's part of the sweep step (R453). -/
def Sweep.step (w : Sweep) : Sweep :=
  if 0 < w.period then { w with ctr := if w.ctr - 1 = 0 then w.period * 2 else w.ctr - 1 } else w

/-- The divider after a sweep step that is due: unchanged where no headroom remains (R453). -/
def sweptPeriod (w : Sweep) (divTc : Nat) : Nat :=
  let d := divTc / 2 ^ w.shift
  let n := if w.dir then divTc + d else divTc - d
  if n ≤ 2048 then n else divTc

/-- Channel 1's part of the sweep step (R453). -/
def Pulse.sweepStep (p : Pulse) (w : Sweep) : Pulse :=
  if 0 < w.period ∧ w.ctr - 1 = 0 ∧ 0 < w.shift then
    { p with voice := { p.voice with divTc := sweptPeriod w p.voice.divTc } }
  else p

/-! ### Output -/

/-- `+volume` or `-volume` (R460). -/
def signedVolume (up : Bool) (volume : Nat) : Int := if up then (volume : Int) else -(volume : Int)

/-- `channel_output` of channels 1 and 2 (R460). -/
def Pulse.output (p : Pulse) : Int :=
  if p.voice.running then signedVolume (decide (p.dutyPos < p.dutyTc)) p.voice.volume else 0

/-- Sample `i` of the wave table: the high nibble of each byte first (R442). -/
def waveSample (regs : Memory) (i : Nat) : Nat :=
  let b := Memory.read regs (0x30 + i / 2)
  if i % 2 = 0 then field b 4 4 else field b 0 4

/-- `channel_output(3)` (R460). -/
def Wave.output (p : Wave) (regs : Memory) : Int :=
  if p.voice.running = false ∨ p.enable = false ∨ p.voice.volume = 0 then 0
  else ((waveSample regs p.wavePos / 2 ^ (p.voice.volume - 1) : Nat) : Int)

/-- `channel_output(4)` (R460). -/
def Noise.output (p : Noise) : Int :=
  if p.voice.running then signedVolume (noiseBit p.lfsr) p.voice.volume else 0

end Sys2Proof.Machine
end

