-- ==== Sys2Proof/Machine/SoundUnit.lean ====
section
/-! DEFINITION. The sound unit as a whole: the register map, the tick, mixing, the impulse resampler
and the advance per cycle (61_sound.md R430-R493). -/

namespace Sys2Proof.Machine

/-- The write action of the register at low address byte `a` (61_sound.md R430). Addresses with no
action (unused, NR50, wave RAM) change nothing here: the byte itself is stored by `Sound.write`. -/
def Sound.writeAction (s : Sound) (a : Nat) (v : Byte) : Sound :=
  match a with
  | 0x10 => { s with sweep := s.sweep.write v }
  | 0x11 => { s with ch1 := s.ch1.writeDutyLen v }
  | 0x12 => { s with ch1 := s.ch1.writeEnvelope v }
  | 0x13 => { s with ch1 := s.ch1.writeFreqLow v }
  | 0x14 => { s with ch1 := s.ch1.writeControl v, sweep := s.sweep.writeControl v }
  | 0x16 => { s with ch2 := s.ch2.writeDutyLen v }
  | 0x17 => { s with ch2 := s.ch2.writeEnvelope v }
  | 0x18 => { s with ch2 := s.ch2.writeFreqLow v }
  | 0x19 => { s with ch2 := s.ch2.writeControl v }
  | 0x1A => { s with ch3 := { s.ch3 with enable := v.getLsbD 7 } }
  | 0x1B => { s with ch3 := s.ch3.writeLen v }
  | 0x1C => { s with ch3 := s.ch3.writeCode v }
  | 0x1D => { s with ch3 := s.ch3.writeFreqLow v }
  | 0x1E => { s with ch3 := s.ch3.writeControl v }
  | 0x20 => { s with ch4 := s.ch4.writeLen v }
  | 0x21 => { s with ch4 := s.ch4.writeEnvelope v }
  | 0x22 => { s with ch4 := s.ch4.writePoly v }
  | 0x23 => { s with ch4 := s.ch4.writeControl v }
  | 0x25 =>
    { s with
      ch1 := { s.ch1 with voice := s.ch1.voice.route 0 v }
      ch2 := { s.ch2 with voice := s.ch2.voice.route 1 v }
      ch3 := { s.ch3 with voice := s.ch3.voice.route 2 v }
      ch4 := { s.ch4 with voice := s.ch4.voice.route 3 v } }
  | 0x26 =>
    { s with
      ch1 := { s.ch1 with voice := s.ch1.voice.power v }
      ch2 := { s.ch2 with voice := s.ch2.voice.power v }
      ch3 := { s.ch3 with voice := s.ch3.voice.power v }
      ch4 := { s.ch4 with voice := s.ch4.voice.power v } }
  | _ => s

/-- A write to the register at low address byte `a`: store the byte, then act (20_memory.md R86). -/
def Sound.write (s : Sound) (a : Nat) (v : Byte) : Sound :=
  Sound.writeAction { s with regs := Memory.write s.regs a v } a v

/-- `clamp(v, 0, MASTER_VOL_MAX)` (61_sound.md R471). -/
def clampVolume (v : Int) : Int := max 0 (min v Config.masterVolMax)

/-- `tick()`: per channel length then envelope, then the sweep, then the fade (R450, R471). -/
def Sound.tick (s : Sound) (fade : Int) : Sound :=
  { s with
    ch1 := s.ch1.tick.sweepStep s.sweep
    sweep := s.sweep.step
    ch2 := s.ch2.tick
    ch3 := s.ch3.tick
    ch4 := s.ch4.tick
    masterVolume := clampVolume (s.masterVolume + fade) }

/-- The countdown to the tick over one cycle (R446). -/
def Sound.sequence (s : Sound) (fade : Int) : Sound :=
  if s.seqCtr - 1 = 0 then Sound.tick { s with seqCtr := Config.seqPeriod } fade
  else { s with seqCtr := s.seqCtr - 1 }

/-- The four dividers over one cycle (R446, R447). -/
def Sound.divide (s : Sound) : Sound :=
  { s with ch1 := s.ch1.divide, ch2 := s.ch2.divide, ch3 := s.ch3.divide, ch4 := s.ch4.divide }

/-- `level[ch] <- channel_output(ch)` for the four channels (R446, R460). -/
def Sound.levels (s : Sound) : Sound :=
  { s with
    ch1 := { s.ch1 with voice := { s.ch1.voice with level := s.ch1.output } }
    ch2 := { s.ch2 with voice := { s.ch2.voice with level := s.ch2.output } }
    ch3 := { s.ch3 with voice := { s.ch3.voice with level := s.ch3.output s.regs } }
    ch4 := { s.ch4 with voice := { s.ch4.voice with level := s.ch4.output } } }

/-- One channel's part of a side's sum (R470). -/
def gated (routed muted : Bool) (level : Int) : Int := if routed && !muted then level else 0

/-- `tdiv(sum * 512 * master_volume, MASTER_VOL_MAX)` (R470). -/
def scaled (sum volume : Int) : Int := Int.tdiv (sum * 512 * volume) Config.masterVolMax

/-- The left side of `mix()` (R470). -/
def Sound.mixL (s : Sound) (h : HostSide) : Int :=
  scaled (gated s.ch1.voice.left h.mute1 s.ch1.voice.level + gated s.ch2.voice.left h.mute2 s.ch2.voice.level +
    gated s.ch3.voice.left h.mute3 s.ch3.voice.level + gated s.ch4.voice.left h.mute4 s.ch4.voice.level) s.masterVolume

/-- The right side of `mix()` (R470). -/
def Sound.mixR (s : Sound) (h : HostSide) : Int :=
  scaled (gated s.ch1.voice.right h.mute1 s.ch1.voice.level + gated s.ch2.voice.right h.mute2 s.ch2.voice.level +
    gated s.ch3.voice.right h.mute3 s.ch3.voice.level + gated s.ch4.voice.right h.mute4 s.ch4.voice.level) s.masterVolume

/-! ### The resampler -/

/-- `SAMPLE_RATE` and `OUT_FRAMES` where the host has set both to values the resampler's arithmetic is
defined for: `0 < SAMPLE_RATE < CLK`, `OUT_FRAMES > 0` (61_sound.md R485, R491; log 3). -/
def HostSide.resampler (h : HostSide) : Option (Nat × Nat) :=
  match h.sampleRate, h.outFrames with
  | some rate, some frames =>
    if 0 < rate ∧ rate < Config.clk ∧ 0 < frames then some (rate, frames) else none
  | _, _ => none

/-- The row of a phase in a table of the form of `IMPULSE_TABLE` (R490). -/
def impulseRow (table : List (List Int)) (phase : Nat) : List Int := table.getD phase []

/-- Add `delta` times each tap into the buffer from entry `i` up (R480). -/
def addTaps : Nat → Int → List Int → List Int → List Int
  | _, _, _, [] => []
  | i + 1, delta, taps, x :: buf => x :: addTaps i delta taps buf
  | 0, _, [], buf => buf
  | 0, delta, t :: taps, x :: buf => (x + delta * t) :: addTaps 0 delta taps buf

/-- The sample index of a position (R480). -/
def sampleIndex (pos : Nat) : Nat := pos / Config.clk

/-- The kernel phase of a position (R480). -/
def samplePhase (pos : Nat) : Nat := ((pos % Config.clk) * Config.impulsePhases) / Config.clk

/-- `inject(dl, dr)` with the kernel `table` (R480). -/
def Sound.inject (s : Sound) (table : List (List Int)) (dl dr : Int) : Sound :=
  let row := impulseRow table (samplePhase s.pos)
  { s with
    impL := addTaps (sampleIndex s.pos) dl row s.impL
    impR := addTaps (sampleIndex s.pos) dr row s.impR }

/-- Inject the change of the mixed levels and keep them (R446). Without a configured resampler there is
no buffer to inject into (log 3). -/
def Sound.emit (s : Sound) (h : HostSide) (l r : Int) : Sound :=
  let t := if h.resampler.isSome && (l != s.lastL || r != s.lastR) then
      s.inject h.impulseTable (l - s.lastL) (r - s.lastR) else s
  { t with lastL := l, lastR := r }

/-- `sat16` (R493). -/
def sat16 (v : Int) : Int := max (-32768) (min v 32767)

/-- One output sample of a running sum: `sat16(acc asr 8)`, a floor division by `IMPULSE_UNIT` (R493). -/
def pcmSample (acc : Int) : Int := sat16 (Int.fdiv acc Config.impulseUnit)

/-- The samples of one side and the running sum after them (R492). -/
def integrate : Int → List Int → List Int × Int
  | acc, [] => ([], acc)
  | acc, x :: xs =>
    let rest := integrate (acc + x) xs
    (pcmSample (acc + x) :: rest.1, rest.2)

/-- Interleave the two sides, left first (R491). -/
def interleave : List Int → List Int → List Int
  | l :: ls, r :: rs => l :: r :: interleave ls rs
  | _, _ => []

/-- The buffer a `flush()` hands to the callback (R492). -/
def Sound.filled (s : Sound) (frames : Nat) : List Int :=
  interleave (integrate s.accL (s.impL.take frames)).1 (integrate s.accR (s.impR.take frames)).1

/-- The shift-and-clear of one side's impulse buffer (R492). -/
def shiftTail (frames : Nat) (buf : List Int) : List Int :=
  buf.drop frames ++ List.replicate frames 0

/-- `flush()`, less the hand-over of `Sound.filled` (R492). -/
def Sound.flush (s : Sound) (frames : Nat) : Sound :=
  { s with
    accL := (integrate s.accL (s.impL.take frames)).2
    accR := (integrate s.accR (s.impR.take frames)).2
    out := List.replicate (2 * frames) 0
    impL := shiftTail frames s.impL
    impR := shiftTail frames s.impR
    pos := s.pos - frames * Config.clk }

/-- `advance_position()`: the sound unit after it, and the filled buffer where it flushed (R485). -/
def Sound.advancePosition (s : Sound) (cfg : Option (Nat × Nat)) : Sound × Option (List Int) :=
  match cfg with
  | none => (s, none)
  | some (rate, frames) =>
    let t := { s with pos := s.pos + rate }
    if frames ≤ sampleIndex t.pos then (t.flush frames, some (t.filled frames)) else (t, none)

/-- `sound_cycle()` less its last step (R446). -/
def Sound.cycleBody (s : Sound) (h : HostSide) : Sound :=
  let t := (s.sequence h.masterFade).divide.levels
  t.emit h (t.mixL h) (t.mixR h)

/-- `sound_cycle()` (R446). -/
def Sound.cycle (s : Sound) (h : HostSide) : Sound × Option (List Int) :=
  (s.cycleBody h).advancePosition h.resampler

/-- The events a flush adds: a call of the callback if one is registered (R491, R492). -/
def flushEvents (h : HostSide) (filled : Option (List Int)) (events : List HostEvent) : List HostEvent :=
  match filled with
  | some buf => if h.callback then .pcm buf :: events else events
  | none => events

/-- `sound_advance(c)`: `c` cycles (R445), with the events so far. -/
def Sound.advance (h : HostSide) : Nat → Sound → List HostEvent → Sound × List HostEvent
  | 0, s, events => (s, events)
  | n + 1, s, events =>
    let r := s.cycle h
    Sound.advance h n r.1 (flushEvents h r.2 events)

end Sys2Proof.Machine
end

