-- ==== Sys2Proof/Machine/BusAccess.lean ====
section
/-! DEFINITION. The bus: the page table, the I/O fan-out, and the two byte operations every access is made
of (20_memory.md R70-R90). -/

namespace Sys2Proof.Machine

/-- The handler tags of the page table (20_memory.md R71, R77). -/
inductive Region where
  | romFixed
  | romBanked
  | extRam
  | workRam
  | ioPage
  | unmapped
  deriving DecidableEq, Repr

/-- One `add_handler` call: a handler for an inclusive page range (20_memory.md R74). -/
structure Install where
  first : Nat
  last : Nat
  region : Region
  deriving DecidableEq, Repr

/-- The installs `init` makes (R77). -/
def busInstalls : List Install :=
  [⟨0x00, 0x3F, .romFixed⟩, ⟨0x40, 0x7F, .romBanked⟩, ⟨0xA0, 0xBF, .extRam⟩,
   ⟨0xC0, 0xDF, .workRam⟩, ⟨0xFF, 0xFF, .ioPage⟩]

/-- The handler of a page after a list of installs: a later install wins, and a page no install covers
has the default handler (R73, R74). -/
def handlerOf (installs : List Install) (page : Nat) : Region :=
  installs.foldl (fun r i => if i.first ≤ page ∧ page ≤ i.last then i.region else r) .unmapped

/-- `page[addr >> 8]` (R71). -/
def regionOf (a : Word) : Region := handlerOf busInstalls (a.toNat / 256)

/-- The targets of the I/O page's fan-out (R85). -/
inductive IoReg where
  | counter
  | tma
  | tac
  | sound
  | highRam
  | ie
  | unimplemented
  deriving DecidableEq, Repr

/-- The fan-out by the low byte of the address (R85). -/
def ioReg (lo : Nat) : IoReg :=
  if lo = 0x04 ∨ lo = 0x05 then .counter
  else if lo = 0x06 then .tma
  else if lo = 0x07 then .tac
  else if 0x10 ≤ lo ∧ lo ≤ 0x3F then .sound
  else if 0x80 ≤ lo ∧ lo ≤ 0xFE then .highRam
  else if lo = 0xFF then .ie
  else .unimplemented

/-- The low byte of an address as a number. -/
def lowOf (a : Word) : Nat := a.toNat % 256

/-- The image offset an address of the switchable window reads (R79). -/
def bankedOffset (romBank : Nat) (a : Word) : Nat := romBank * Config.bankSize + (a.toNat - 0x4000)

/-- The byte a read of the I/O page returns (R85-R90). -/
def State.peekIo (s : State) (a : Word) : Byte :=
  match ioReg (lowOf a) with
  | .counter => Config.draw s.draws
  | .tma => s.bus.tma
  | .tac => s.bus.tac
  | .sound => Memory.read s.snd.regs (lowOf a)
  | .highRam => Memory.read s.bus.mem a.toNat
  | .ie => s.bus.ie
  | .unimplemented => 0xFF#8

/-- The byte a read of an address returns (R72, R77). -/
def State.peek (s : State) (a : Word) : Byte :=
  match regionOf a with
  | .romFixed => Memory.read s.bus.rom a.toNat
  | .romBanked => Memory.read s.bus.rom (bankedOffset s.bus.romBank a)
  | .extRam => Memory.read s.bus.mem a.toNat
  | .workRam => Memory.read s.bus.mem a.toNat
  | .ioPage => s.peekIo a
  | .unmapped => 0xFF#8

/-- Send an event to the host. -/
def State.note (s : State) (e : HostEvent) : State :=
  { s with host := { s.host with events := e :: s.host.events } }

/-- What a read leaves behind: a taken draw, or a diagnostic of an unimplemented I/O address (R88, R93). -/
def State.afterRead (s : State) (a : Word) : State :=
  match regionOf a with
  | .ioPage =>
    match ioReg (lowOf a) with
    | .counter => { s with draws := s.draws + 1 }
    | .unimplemented => s.note (.diag (.unimplementedRead a))
    | _ => s
  | _ => s

/-- `MemRead(addr, 1)` (00_scope.md R11, 20_memory.md R72). -/
def State.memRead (s : State) (a : Word) : Byte × State := (s.peek a, s.afterRead a)

/-- The bank a byte selects (R80): 0 means 1, then the clamp. -/
def selectedBank (bankCount : Nat) (v : Byte) : Nat :=
  let b := if v.toNat = 0 then 1 else v.toNat
  if bankCount ≤ b then bankCount - 1 else b

/-- Whether a bank select is clamped (R80). -/
def bankClamped (bankCount : Nat) (v : Byte) : Bool :=
  decide (bankCount ≤ (if v.toNat = 0 then 1 else v.toNat))

/-- The clamp's diagnostic, once a session (R101, log 11). -/
def State.warnClamp (s : State) : State :=
  if s.host.bankClampWarned then s
  else { s with host := { s.host with events := .diag .bankClamp :: s.host.events, bankClampWarned := true } }

/-- A write to 0x2000-0x3FFF (R80). -/
def State.selectBank (s : State) (v : Byte) : State :=
  let t := { s with bus := { s.bus with romBank := selectedBank s.bus.bankCount v } }
  if bankClamped s.bus.bankCount v then t.warnClamp else t

/-- The cycles per timer increment of a clock select (60_exceptions.md R371). -/
def timerDivisor (tac : Byte) : Nat :=
  match tac.toNat % 4 with
  | 0 => 1024
  | 1 => 16
  | 2 => 64
  | _ => 256

/-- `timer_period` of TMA and TAC (60_exceptions.md R371). -/
def timerPeriodOf (tma tac : Byte) : Nat :=
  if tac.getLsbD 2 then (256 - tma.toNat) * timerDivisor tac else 0

/-- Recompute the timer's period and restart it (60_exceptions.md R371). -/
def State.reprogramTimer (s : State) : State :=
  let p := timerPeriodOf s.bus.tma s.bus.tac
  { s with timers := { s.timers with timerPeriod := p, timerCtr := (p : Int) } }

/-- The I/O observer's call, if one is registered (60_exceptions.md R384). -/
def State.observe (s : State) (a : Word) (v : Byte) : State :=
  if s.host.observer then s.note (.ioWrite s.sessionCycles a v) else s

/-- A write to a sound register: store, act, observe (20_memory.md R86). -/
def State.writeSound (s : State) (a : Word) (v : Byte) : State :=
  State.observe { s with snd := s.snd.write (lowOf a) v } a v

/-- Store a byte in a RAM. -/
def State.writeRam (s : State) (a : Word) (v : Byte) : State :=
  { s with bus := { s.bus with mem := Memory.write s.bus.mem a.toNat v } }

/-- A write to the I/O page (R85-R90). -/
def State.writeIo (s : State) (a : Word) (v : Byte) : State :=
  match ioReg (lowOf a) with
  | .counter => s
  | .tma => State.reprogramTimer { s with bus := { s.bus with tma := v } }
  | .tac => State.reprogramTimer { s with bus := { s.bus with tac := v } }
  | .sound => s.writeSound a v
  | .highRam => s.writeRam a v
  | .ie => { s with bus := { s.bus with ie := v } }
  | .unimplemented => s.note (.diag (.unimplementedWrite a v))

/-- `MemWrite(addr, 1, v)` (00_scope.md R11, 20_memory.md R72). -/
def State.memWrite (s : State) (a : Word) (v : Byte) : State :=
  match regionOf a with
  | .romFixed => if 0x2000 ≤ a.toNat then s.selectBank v else s
  | .romBanked => s
  | .extRam => s.writeRam a v
  | .workRam => s.writeRam a v
  | .ioPage => s.writeIo a v
  | .unmapped => s

end Sys2Proof.Machine
end

