-- ==== Sys2Proof/Machine/Flags.lean ====
section
/-! DEFINITION. The flags of F (10_state.md R34-R36) and every flag and result computation of the ALU
(41_alu8.md, 42_alu16.md, 43_rotate_shift_bit.md). -/

namespace Sys2Proof.Machine

/-- Z, bit 7 of F (R34). -/
def State.flagZ (s : State) : Bool := s.cpu.f.getLsbD 7
/-- N, bit 6 of F (R34). -/
def State.flagN (s : State) : Bool := s.cpu.f.getLsbD 6
/-- H, bit 5 of F (R34). -/
def State.flagH (s : State) : Bool := s.cpu.f.getLsbD 5
/-- C, bit 4 of F (R34). -/
def State.flagC (s : State) : Bool := s.cpu.f.getLsbD 4

/-- The byte with the four flags in their places and bits 3-0 zero (R34). -/
def packF (z n h c : Bool) : Byte :=
  BitVec.ofBool z ++ BitVec.ofBool n ++ BitVec.ofBool h ++ BitVec.ofBool c ++ 0#4

/-- Write the four flags. -/
def State.setFlags (s : State) (z n h c : Bool) : State :=
  s.setF (packF z n h c)

/-- `cond(cc)` on the current F (30_encoding.md R118). -/
def State.cond (s : State) : Cond → Bool
  | .nz => !s.flagZ
  | .z => s.flagZ
  | .nc => !s.flagC
  | .c => s.flagC

/-- The carry flag as a byte, `c_in`. -/
def State.carryIn (s : State) : Byte :=
  if s.flagC then 1#8 else 0#8

/-- `Zm`: the result byte is zero (41_alu8.md R200). -/
def zeroM (new : Byte) : Bool := decide (new = 0#8)
/-- Addition-style `Cm`: `old > new` (R200). -/
def carryAdd (old new : Byte) : Bool := decide (new.toNat < old.toNat)
/-- Addition-style `Hm`: `(old & 0xF) > (new & 0xF)` (R200). -/
def halfAdd (old new : Byte) : Bool := decide ((new &&& 0x0F#8).toNat < (old &&& 0x0F#8).toNat)
/-- Subtraction-style `Cm`: `old < new` (R200). -/
def carrySub (old new : Byte) : Bool := decide (old.toNat < new.toNat)
/-- Subtraction-style `Hm`: `(old & 0xF) < (new & 0xF)` (R200). -/
def halfSub (old new : Byte) : Bool := decide ((old &&& 0x0F#8).toNat < (new &&& 0x0F#8).toNat)

/-- Addition-style flags of `old` and `new`. -/
def State.flagsAdd (s : State) (old new : Byte) : State :=
  s.setFlags (zeroM new) false (halfAdd old new) (carryAdd old new)

/-- Subtraction-style flags of `old` and `new`. -/
def State.flagsSub (s : State) (old new : Byte) : State :=
  s.setFlags (zeroM new) true (halfSub old new) (carrySub old new)

/-- The eight ALU operations on A and an operand byte (41_alu8.md R202-R209). -/
def State.alu (s : State) (op : AluOp) (x : Byte) : State :=
  let old := s.cpu.a
  match op with
  | .add => let new := old + x; (s.setReg8 .a new).flagsAdd old new
  | .adc => let new := old + x + s.carryIn; (s.setReg8 .a new).flagsAdd old new
  | .sub => let new := old - x; (s.setReg8 .a new).flagsSub old new
  | .sbc => let new := old - x - s.carryIn; (s.setReg8 .a new).flagsSub old new
  | .and => let new := old &&& x; (s.setReg8 .a new).setFlags (zeroM new) false true false
  | .xor => let new := old ^^^ x; (s.setReg8 .a new).setFlags (zeroM new) false false false
  | .or => let new := old ||| x; (s.setReg8 .a new).setFlags (zeroM new) false false false
  | .cp => s.flagsSub old (old - x)

/-- The flags of INC: C is unchanged (41_alu8.md R210, D7). -/
def State.flagsInc (s : State) (old new : Byte) : State :=
  s.setFlags (zeroM new) false (halfAdd old new) s.flagC

/-- The flags of DEC: C is unchanged (41_alu8.md R212, D7). -/
def State.flagsDec (s : State) (old new : Byte) : State :=
  s.setFlags (zeroM new) true (halfSub old new) s.flagC

/-- `daa_adjust(A, N, H, C)` (41_alu8.md R223). -/
def daaAdjust (a : Byte) (n h c : Bool) : Byte × Bool :=
  if n then
    (a - ((if c then 0x60#8 else 0#8) ||| (if h then 0x06#8 else 0#8)), c)
  else
    let hi : Bool := c || decide (0x99 < a.toNat)
    let lo : Bool := h || decide (9 < (a &&& 0x0F#8).toNat)
    (a + ((if hi then 0x60#8 else 0#8) ||| (if lo then 0x06#8 else 0#8)), hi)

/-- H of ADD HL: the carry out of bit 11 (42_alu16.md R250). -/
def half16 (old x : Word) : Bool := decide (0x0FFF < old.toNat % 0x1000 + x.toNat % 0x1000)
/-- C of ADD HL: the carry out of bit 15 (R250). -/
def carry16 (old x : Word) : Bool := decide (0xFFFF < old.toNat + x.toNat)
/-- H of ADD SP,e8 and LD HL,SP+e8, from the raw byte (42_alu16.md R253). -/
def halfSp (old : Word) (e : Byte) : Bool := decide (0x0F < old.toNat % 0x10 + e.toNat % 0x10)
/-- C of ADD SP,e8 and LD HL,SP+e8, from the raw byte (R253). -/
def carrySp (old : Word) (e : Byte) : Bool := decide (0xFF < old.toNat % 0x100 + e.toNat)

/-- The rotates and shifts: the result and the bit shifted out (43_rotate_shift_bit.md R275-R282).
SWAP gives C = 0. -/
def rotResult (op : RotOp) (v : Byte) (c : Bool) : Byte × Bool :=
  match op with
  | .rlc => ((v <<< 1) ||| (v >>> 7), v.getLsbD 7)
  | .rrc => ((v >>> 1) ||| (v <<< 7), v.getLsbD 0)
  | .rl => ((v <<< 1) ||| (if c then 0x01#8 else 0#8), v.getLsbD 7)
  | .rr => ((v >>> 1) ||| (if c then 0x80#8 else 0#8), v.getLsbD 0)
  | .sla => (v <<< 1, v.getLsbD 7)
  | .sra => ((v >>> 1) ||| (v &&& 0x80#8), v.getLsbD 0)
  | .swap => ((v <<< 4) ||| (v >>> 4), false)
  | .srl => (v >>> 1, v.getLsbD 0)

/-- `1 << b` as a byte (43_rotate_shift_bit.md R284, R285). -/
def bitMask (b : Fin 8) : Byte := 1#8 <<< b.val

end Sys2Proof.Machine
end

