-- ==== Sys2Proof/Machine/Ops.lean ====
section
/-! DEFINITION. The named operations the meanings are made of: fetch, stack, operand access, the fatal
outcome, interrupt delivery and the return from it (00_scope.md R11, R12, 60_exceptions.md R351, R363). -/

namespace Sys2Proof.Machine

/-- A finished instruction: charge its cycles and go on. -/
def State.done (s : State) (cycles : Nat) : Out := .next (s.charge cycles)

/-- `Fetch8()` (R11). -/
def State.fetch8 (s : State) : Byte × State :=
  let r := s.memRead s.cpu.pc
  (r.1, r.2.setPc (s.cpu.pc + 1#16))

/-- One byte of a push: pre-decrement, then write (R11, 20_memory.md R76). -/
def State.push8 (s : State) (v : Byte) : State :=
  let t := s.setSp (s.cpu.sp - 1#16)
  t.memWrite t.cpu.sp v

/-- `Push16(v)`: the high byte first (R11). -/
def State.push16 (s : State) (v : Word) : State := (s.push8 (hiByte v)).push8 (loByte v)

/-- One byte of a pop: read, then post-increment (R11). -/
def State.pop8 (s : State) : Byte × State :=
  let r := s.memRead s.cpu.sp
  (r.1, r.2.setSp (s.cpu.sp + 1#16))

/-- `Pop16()`: the low byte first (R11). -/
def State.pop16 (s : State) : Word × State :=
  let lo := s.pop8
  let hi := lo.2.pop8
  (wordOf lo.1 hi.1, hi.2)

/-- `PC <- Pop16()` (44_control.md R308, R310). -/
def State.popPc (s : State) : State :=
  let r := s.pop16
  r.2.setPc r.1

/-- Read an 8-bit operand: a register or the byte at HL (R12, 43_rotate_shift_bit.md R274). -/
def State.readOpnd (s : State) : Opnd → Byte × State
  | .reg r => (s.reg8 r, s)
  | .mem => s.memRead s.hl

/-- Write an 8-bit operand (R12, R274). -/
def State.writeOpnd (s : State) (o : Opnd) (v : Byte) : State :=
  match o with
  | .reg r => s.setReg8 r v
  | .mem => s.memWrite s.hl v

/-- `raise Fatal(reason)`: `stopped` and `stop_reason` are set, no cycles are charged and nothing else is
written (R11, 60_exceptions.md R351). -/
def State.raiseFatal (s : State) (reason : StopReason) : State :=
  State.charge { s with cpu := { s.cpu with stopReason := some reason } } 0

/-- `deliver_interrupt(vector)` (60_exceptions.md R363). -/
def State.deliverInterrupt (s : State) (vector : Word) : State :=
  let t := (s.setHalted false).setIme false
  (t.push16 t.cpu.pc).setPc vector

/-- The return from an interrupt: pop PC, then `ime <- 1` (60_exceptions.md R367, 44_control.md R311). -/
def State.returnFromInterrupt (s : State) : State := s.popPc.setIme true

end Sys2Proof.Machine
end

