-- ==== Sys2Proof/Machine/Alu16.lean ====
section
/-! DEFINITION. 16-bit arithmetic (42_alu16.md R249-R254). -/

namespace Sys2Proof.Machine

/-- ADD HL,rr (R250). -/
def opAddHl (p : Pair) (cycles : Nat) (s : State) : Out :=
  let old := s.hl
  let x := s.pair p
  ((s.setHl (old + x)).setFlags s.flagZ false (half16 old x) (carry16 old x)).done cycles

/-- INC rr (R251). -/
def opIncPair (p : Pair) (cycles : Nat) (s : State) : Out := (s.setPair p (s.pair p + 1#16)).done cycles

/-- DEC rr (R252). -/
def opDecPair (p : Pair) (cycles : Nat) (s : State) : Out := (s.setPair p (s.pair p - 1#16)).done cycles

/-- ADD SP,e8 (R253). -/
def opAddSp (e : Byte) (cycles : Nat) (s : State) : Out :=
  let old := s.cpu.sp
  ((s.setSp (old + sext16 e)).setFlags false false (halfSp old e) (carrySp old e)).done cycles

/-- LD HL,SP+e8 (R254). -/
def opLdHlSp (e : Byte) (cycles : Nat) (s : State) : Out :=
  let old := s.cpu.sp
  ((s.setHl (old + sext16 e)).setFlags false false (halfSp old e) (carrySp old e)).done cycles

/-- INC BC (R251). -/
def exec_inc_bc (s : State) : Out := opIncPair .bc 8 s
/-- ADD HL,BC (R250). -/
def exec_add_hl_bc (s : State) : Out := opAddHl .bc 8 s
/-- DEC BC (R252). -/
def exec_dec_bc (s : State) : Out := opDecPair .bc 8 s
/-- INC DE (R251). -/
def exec_inc_de (s : State) : Out := opIncPair .de 8 s
/-- ADD HL,DE (R250). -/
def exec_add_hl_de (s : State) : Out := opAddHl .de 8 s
/-- DEC DE (R252). -/
def exec_dec_de (s : State) : Out := opDecPair .de 8 s
/-- INC HL (R251). -/
def exec_inc_hl (s : State) : Out := opIncPair .hl 8 s
/-- ADD HL,HL (R250). -/
def exec_add_hl_hl (s : State) : Out := opAddHl .hl 8 s
/-- DEC HL (R252). -/
def exec_dec_hl (s : State) : Out := opDecPair .hl 8 s
/-- INC SP (R251). -/
def exec_inc_sp (s : State) : Out := opIncPair .sp 8 s
/-- ADD HL,SP (R250). -/
def exec_add_hl_sp (s : State) : Out := opAddHl .sp 8 s
/-- DEC SP (R252). -/
def exec_dec_sp (s : State) : Out := opDecPair .sp 8 s
/-- ADD SP,e8 (R253). -/
def exec_add_sp_e8 (e : Byte) (s : State) : Out := opAddSp e 16 s
/-- LD HL,SP+e8 (R254). -/
def exec_ld_hl_sp_e8 (e : Byte) (s : State) : Out := opLdHlSp e 12 s

end Sys2Proof.Machine
end

