-- ==== Sys2Proof/Machine/Alu8.lean ====
section
/-! DEFINITION. 8-bit arithmetic and logic (41_alu8.md R199-R224). -/

namespace Sys2Proof.Machine

/-- An ALU operation with a register or memory operand (R199). -/
def opAlu (op : AluOp) (o : Opnd) (cycles : Nat) (s : State) : Out :=
  let r := s.readOpnd o
  (r.2.alu op r.1).done cycles

/-- An ALU operation with an immediate operand (R199). -/
def opAluImm (op : AluOp) (n : Byte) (cycles : Nat) (s : State) : Out := (s.alu op n).done cycles

/-- INC of a register or memory operand (R210, R211). -/
def opInc (o : Opnd) (cycles : Nat) (s : State) : Out :=
  let r := s.readOpnd o
  ((r.2.writeOpnd o (r.1 + 1#8)).flagsInc r.1 (r.1 + 1#8)).done cycles

/-- DEC of a register or memory operand (R212, R213). -/
def opDec (o : Opnd) (cycles : Nat) (s : State) : Out :=
  let r := s.readOpnd o
  ((r.2.writeOpnd o (r.1 - 1#8)).flagsDec r.1 (r.1 - 1#8)).done cycles

/-- CPL (R220). -/
def opCpl (cycles : Nat) (s : State) : Out :=
  ((s.setReg8 .a (s.cpu.a ^^^ 0xFF#8)).setFlags s.flagZ true true s.flagC).done cycles

/-- SCF (R221). -/
def opScf (cycles : Nat) (s : State) : Out := (s.setFlags s.flagZ false false true).done cycles

/-- CCF (R222). -/
def opCcf (cycles : Nat) (s : State) : Out := (s.setFlags s.flagZ false false (!s.flagC)).done cycles

/-- DAA in a given mode (R224). -/
def opDaa (mode : DaaMode) (cycles : Nat) (s : State) : Out :=
  let r := daaAdjust s.cpu.a s.flagN s.flagH s.flagC
  match mode with
  | .adjustOnly => (s.setReg8 .a r.1).done cycles
  | .hardware => ((s.setReg8 .a r.1).setFlags (zeroM r.1) s.flagN false r.2).done cycles
  | .refuse => .refused .daaRefused

/-- INC B (R210). -/
def exec_inc_b (s : State) : Out := opInc (.reg .b) 4 s
/-- DEC B (R212). -/
def exec_dec_b (s : State) : Out := opDec (.reg .b) 4 s
/-- INC C (R210). -/
def exec_inc_c (s : State) : Out := opInc (.reg .c) 4 s
/-- DEC C (R212). -/
def exec_dec_c (s : State) : Out := opDec (.reg .c) 4 s
/-- INC D (R210). -/
def exec_inc_d (s : State) : Out := opInc (.reg .d) 4 s
/-- DEC D (R212). -/
def exec_dec_d (s : State) : Out := opDec (.reg .d) 4 s
/-- INC E (R210). -/
def exec_inc_e (s : State) : Out := opInc (.reg .e) 4 s
/-- DEC E (R212). -/
def exec_dec_e (s : State) : Out := opDec (.reg .e) 4 s
/-- INC H (R210). -/
def exec_inc_h (s : State) : Out := opInc (.reg .h) 4 s
/-- DEC H (R212). -/
def exec_dec_h (s : State) : Out := opDec (.reg .h) 4 s
/-- DAA (R224). -/
def exec_daa (s : State) : Out := opDaa s.host.daaMode 4 s
/-- INC L (R210). -/
def exec_inc_l (s : State) : Out := opInc (.reg .l) 4 s
/-- DEC L (R212). -/
def exec_dec_l (s : State) : Out := opDec (.reg .l) 4 s
/-- CPL (R220). -/
def exec_cpl (s : State) : Out := opCpl 4 s
/-- INC (HL) (R211). -/
def exec_inc_mhl (s : State) : Out := opInc .mem 12 s
/-- DEC (HL) (R213). -/
def exec_dec_mhl (s : State) : Out := opDec .mem 12 s
/-- SCF (R221). -/
def exec_scf (s : State) : Out := opScf 4 s
/-- INC A (R210). -/
def exec_inc_a (s : State) : Out := opInc (.reg .a) 4 s
/-- DEC A (R212). -/
def exec_dec_a (s : State) : Out := opDec (.reg .a) 4 s
/-- CCF (R222). -/
def exec_ccf (s : State) : Out := opCcf 4 s
/-- ADD A,B (R202). -/
def exec_add_a_b (s : State) : Out := opAlu .add (.reg .b) 4 s
/-- ADD A,C (R202). -/
def exec_add_a_c (s : State) : Out := opAlu .add (.reg .c) 4 s
/-- ADD A,D (R202). -/
def exec_add_a_d (s : State) : Out := opAlu .add (.reg .d) 4 s
/-- ADD A,E (R202). -/
def exec_add_a_e (s : State) : Out := opAlu .add (.reg .e) 4 s
/-- ADD A,H (R202). -/
def exec_add_a_h (s : State) : Out := opAlu .add (.reg .h) 4 s
/-- ADD A,L (R202). -/
def exec_add_a_l (s : State) : Out := opAlu .add (.reg .l) 4 s
/-- ADD A,(HL) (R202). -/
def exec_add_a_mhl (s : State) : Out := opAlu .add .mem 8 s
/-- ADD A,A (R202). -/
def exec_add_a_a (s : State) : Out := opAlu .add (.reg .a) 4 s
/-- ADC A,B (R203). -/
def exec_adc_a_b (s : State) : Out := opAlu .adc (.reg .b) 4 s
/-- ADC A,C (R203). -/
def exec_adc_a_c (s : State) : Out := opAlu .adc (.reg .c) 4 s
/-- ADC A,D (R203). -/
def exec_adc_a_d (s : State) : Out := opAlu .adc (.reg .d) 4 s
/-- ADC A,E (R203). -/
def exec_adc_a_e (s : State) : Out := opAlu .adc (.reg .e) 4 s
/-- ADC A,H (R203). -/
def exec_adc_a_h (s : State) : Out := opAlu .adc (.reg .h) 4 s
/-- ADC A,L (R203). -/
def exec_adc_a_l (s : State) : Out := opAlu .adc (.reg .l) 4 s
/-- ADC A,(HL) (R203). -/
def exec_adc_a_mhl (s : State) : Out := opAlu .adc .mem 8 s
/-- ADC A,A (R203). -/
def exec_adc_a_a (s : State) : Out := opAlu .adc (.reg .a) 4 s
/-- SUB B (R204). -/
def exec_sub_b (s : State) : Out := opAlu .sub (.reg .b) 4 s
/-- SUB C (R204). -/
def exec_sub_c (s : State) : Out := opAlu .sub (.reg .c) 4 s
/-- SUB D (R204). -/
def exec_sub_d (s : State) : Out := opAlu .sub (.reg .d) 4 s
/-- SUB E (R204). -/
def exec_sub_e (s : State) : Out := opAlu .sub (.reg .e) 4 s
/-- SUB H (R204). -/
def exec_sub_h (s : State) : Out := opAlu .sub (.reg .h) 4 s
/-- SUB L (R204). -/
def exec_sub_l (s : State) : Out := opAlu .sub (.reg .l) 4 s
/-- SUB (HL) (R204). -/
def exec_sub_mhl (s : State) : Out := opAlu .sub .mem 8 s
/-- SUB A (R204). -/
def exec_sub_a (s : State) : Out := opAlu .sub (.reg .a) 4 s
/-- SBC A,B (R205). -/
def exec_sbc_a_b (s : State) : Out := opAlu .sbc (.reg .b) 4 s
/-- SBC A,C (R205). -/
def exec_sbc_a_c (s : State) : Out := opAlu .sbc (.reg .c) 4 s
/-- SBC A,D (R205). -/
def exec_sbc_a_d (s : State) : Out := opAlu .sbc (.reg .d) 4 s
/-- SBC A,E (R205). -/
def exec_sbc_a_e (s : State) : Out := opAlu .sbc (.reg .e) 4 s
/-- SBC A,H (R205). -/
def exec_sbc_a_h (s : State) : Out := opAlu .sbc (.reg .h) 4 s
/-- SBC A,L (R205). -/
def exec_sbc_a_l (s : State) : Out := opAlu .sbc (.reg .l) 4 s
/-- SBC A,(HL) (R205). -/
def exec_sbc_a_mhl (s : State) : Out := opAlu .sbc .mem 8 s
/-- SBC A,A (R205). -/
def exec_sbc_a_a (s : State) : Out := opAlu .sbc (.reg .a) 4 s
/-- AND B (R206). -/
def exec_and_b (s : State) : Out := opAlu .and (.reg .b) 4 s
/-- AND C (R206). -/
def exec_and_c (s : State) : Out := opAlu .and (.reg .c) 4 s
/-- AND D (R206). -/
def exec_and_d (s : State) : Out := opAlu .and (.reg .d) 4 s
/-- AND E (R206). -/
def exec_and_e (s : State) : Out := opAlu .and (.reg .e) 4 s
/-- AND H (R206). -/
def exec_and_h (s : State) : Out := opAlu .and (.reg .h) 4 s
/-- AND L (R206). -/
def exec_and_l (s : State) : Out := opAlu .and (.reg .l) 4 s
/-- AND (HL) (R206). -/
def exec_and_mhl (s : State) : Out := opAlu .and .mem 8 s
/-- AND A (R206). -/
def exec_and_a (s : State) : Out := opAlu .and (.reg .a) 4 s
/-- XOR B (R207). -/
def exec_xor_b (s : State) : Out := opAlu .xor (.reg .b) 4 s
/-- XOR C (R207). -/
def exec_xor_c (s : State) : Out := opAlu .xor (.reg .c) 4 s
/-- XOR D (R207). -/
def exec_xor_d (s : State) : Out := opAlu .xor (.reg .d) 4 s
/-- XOR E (R207). -/
def exec_xor_e (s : State) : Out := opAlu .xor (.reg .e) 4 s
/-- XOR H (R207). -/
def exec_xor_h (s : State) : Out := opAlu .xor (.reg .h) 4 s
/-- XOR L (R207). -/
def exec_xor_l (s : State) : Out := opAlu .xor (.reg .l) 4 s
/-- XOR (HL) (R207). -/
def exec_xor_mhl (s : State) : Out := opAlu .xor .mem 8 s
/-- XOR A (R207). -/
def exec_xor_a (s : State) : Out := opAlu .xor (.reg .a) 4 s
/-- OR B (R208). -/
def exec_or_b (s : State) : Out := opAlu .or (.reg .b) 4 s
/-- OR C (R208). -/
def exec_or_c (s : State) : Out := opAlu .or (.reg .c) 4 s
/-- OR D (R208). -/
def exec_or_d (s : State) : Out := opAlu .or (.reg .d) 4 s
/-- OR E (R208). -/
def exec_or_e (s : State) : Out := opAlu .or (.reg .e) 4 s
/-- OR H (R208). -/
def exec_or_h (s : State) : Out := opAlu .or (.reg .h) 4 s
/-- OR L (R208). -/
def exec_or_l (s : State) : Out := opAlu .or (.reg .l) 4 s
/-- OR (HL) (R208). -/
def exec_or_mhl (s : State) : Out := opAlu .or .mem 8 s
/-- OR A (R208). -/
def exec_or_a (s : State) : Out := opAlu .or (.reg .a) 4 s
/-- CP B (R209). -/
def exec_cp_b (s : State) : Out := opAlu .cp (.reg .b) 4 s
/-- CP C (R209). -/
def exec_cp_c (s : State) : Out := opAlu .cp (.reg .c) 4 s
/-- CP D (R209). -/
def exec_cp_d (s : State) : Out := opAlu .cp (.reg .d) 4 s
/-- CP E (R209). -/
def exec_cp_e (s : State) : Out := opAlu .cp (.reg .e) 4 s
/-- CP H (R209). -/
def exec_cp_h (s : State) : Out := opAlu .cp (.reg .h) 4 s
/-- CP L (R209). -/
def exec_cp_l (s : State) : Out := opAlu .cp (.reg .l) 4 s
/-- CP (HL) (R209). -/
def exec_cp_mhl (s : State) : Out := opAlu .cp .mem 8 s
/-- CP A (R209). -/
def exec_cp_a (s : State) : Out := opAlu .cp (.reg .a) 4 s
/-- ADD A,d8 (R202). -/
def exec_add_a_d8 (n : Byte) (s : State) : Out := opAluImm .add n 8 s
/-- ADC A,d8 (R203). -/
def exec_adc_a_d8 (n : Byte) (s : State) : Out := opAluImm .adc n 8 s
/-- SUB d8 (R204). -/
def exec_sub_d8 (n : Byte) (s : State) : Out := opAluImm .sub n 8 s
/-- SBC A,d8 (R205). -/
def exec_sbc_a_d8 (n : Byte) (s : State) : Out := opAluImm .sbc n 8 s
/-- AND d8 (R206). -/
def exec_and_d8 (n : Byte) (s : State) : Out := opAluImm .and n 8 s
/-- XOR d8 (R207). -/
def exec_xor_d8 (n : Byte) (s : State) : Out := opAluImm .xor n 8 s
/-- OR d8 (R208). -/
def exec_or_d8 (n : Byte) (s : State) : Out := opAluImm .or n 8 s
/-- CP d8 (R209). -/
def exec_cp_d8 (n : Byte) (s : State) : Out := opAluImm .cp n 8 s

end Sys2Proof.Machine
end

