-- ==== Sys2Proof/Machine/Bits.lean ====
section
/-! DEFINITION. Single-bit operations (43_rotate_shift_bit.md R283-R285). -/

namespace Sys2Proof.Machine

/-- BIT b (R283). -/
def opBit (b : Fin 8) (o : Opnd) (cycles : Nat) (s : State) : Out :=
  let v := s.readOpnd o
  (v.2.setFlags (!v.1.getLsbD b.val) false true s.flagC).done cycles

/-- RES b (R284). -/
def opRes (b : Fin 8) (o : Opnd) (cycles : Nat) (s : State) : Out :=
  let v := s.readOpnd o
  (v.2.writeOpnd o (v.1 &&& ~~~(bitMask b))).done cycles

/-- SET b (R285). -/
def opSet (b : Fin 8) (o : Opnd) (cycles : Nat) (s : State) : Out :=
  let v := s.readOpnd o
  (v.2.writeOpnd o (v.1 ||| bitMask b)).done cycles

/-- BIT 0,B (R283). -/
def exec_bit_0_b (s : State) : Out := opBit 0 (.reg .b) 8 s
/-- BIT 0,C (R283). -/
def exec_bit_0_c (s : State) : Out := opBit 0 (.reg .c) 8 s
/-- BIT 0,D (R283). -/
def exec_bit_0_d (s : State) : Out := opBit 0 (.reg .d) 8 s
/-- BIT 0,E (R283). -/
def exec_bit_0_e (s : State) : Out := opBit 0 (.reg .e) 8 s
/-- BIT 0,H (R283). -/
def exec_bit_0_h (s : State) : Out := opBit 0 (.reg .h) 8 s
/-- BIT 0,L (R283). -/
def exec_bit_0_l (s : State) : Out := opBit 0 (.reg .l) 8 s
/-- BIT 0,(HL) (R283). -/
def exec_bit_0_mhl (s : State) : Out := opBit 0 .mem 12 s
/-- BIT 0,A (R283). -/
def exec_bit_0_a (s : State) : Out := opBit 0 (.reg .a) 8 s
/-- BIT 1,B (R283). -/
def exec_bit_1_b (s : State) : Out := opBit 1 (.reg .b) 8 s
/-- BIT 1,C (R283). -/
def exec_bit_1_c (s : State) : Out := opBit 1 (.reg .c) 8 s
/-- BIT 1,D (R283). -/
def exec_bit_1_d (s : State) : Out := opBit 1 (.reg .d) 8 s
/-- BIT 1,E (R283). -/
def exec_bit_1_e (s : State) : Out := opBit 1 (.reg .e) 8 s
/-- BIT 1,H (R283). -/
def exec_bit_1_h (s : State) : Out := opBit 1 (.reg .h) 8 s
/-- BIT 1,L (R283). -/
def exec_bit_1_l (s : State) : Out := opBit 1 (.reg .l) 8 s
/-- BIT 1,(HL) (R283). -/
def exec_bit_1_mhl (s : State) : Out := opBit 1 .mem 12 s
/-- BIT 1,A (R283). -/
def exec_bit_1_a (s : State) : Out := opBit 1 (.reg .a) 8 s
/-- BIT 2,B (R283). -/
def exec_bit_2_b (s : State) : Out := opBit 2 (.reg .b) 8 s
/-- BIT 2,C (R283). -/
def exec_bit_2_c (s : State) : Out := opBit 2 (.reg .c) 8 s
/-- BIT 2,D (R283). -/
def exec_bit_2_d (s : State) : Out := opBit 2 (.reg .d) 8 s
/-- BIT 2,E (R283). -/
def exec_bit_2_e (s : State) : Out := opBit 2 (.reg .e) 8 s
/-- BIT 2,H (R283). -/
def exec_bit_2_h (s : State) : Out := opBit 2 (.reg .h) 8 s
/-- BIT 2,L (R283). -/
def exec_bit_2_l (s : State) : Out := opBit 2 (.reg .l) 8 s
/-- BIT 2,(HL) (R283). -/
def exec_bit_2_mhl (s : State) : Out := opBit 2 .mem 12 s
/-- BIT 2,A (R283). -/
def exec_bit_2_a (s : State) : Out := opBit 2 (.reg .a) 8 s
/-- BIT 3,B (R283). -/
def exec_bit_3_b (s : State) : Out := opBit 3 (.reg .b) 8 s
/-- BIT 3,C (R283). -/
def exec_bit_3_c (s : State) : Out := opBit 3 (.reg .c) 8 s
/-- BIT 3,D (R283). -/
def exec_bit_3_d (s : State) : Out := opBit 3 (.reg .d) 8 s
/-- BIT 3,E (R283). -/
def exec_bit_3_e (s : State) : Out := opBit 3 (.reg .e) 8 s
/-- BIT 3,H (R283). -/
def exec_bit_3_h (s : State) : Out := opBit 3 (.reg .h) 8 s
/-- BIT 3,L (R283). -/
def exec_bit_3_l (s : State) : Out := opBit 3 (.reg .l) 8 s
/-- BIT 3,(HL) (R283). -/
def exec_bit_3_mhl (s : State) : Out := opBit 3 .mem 12 s
/-- BIT 3,A (R283). -/
def exec_bit_3_a (s : State) : Out := opBit 3 (.reg .a) 8 s
/-- BIT 4,B (R283). -/
def exec_bit_4_b (s : State) : Out := opBit 4 (.reg .b) 8 s
/-- BIT 4,C (R283). -/
def exec_bit_4_c (s : State) : Out := opBit 4 (.reg .c) 8 s
/-- BIT 4,D (R283). -/
def exec_bit_4_d (s : State) : Out := opBit 4 (.reg .d) 8 s
/-- BIT 4,E (R283). -/
def exec_bit_4_e (s : State) : Out := opBit 4 (.reg .e) 8 s
/-- BIT 4,H (R283). -/
def exec_bit_4_h (s : State) : Out := opBit 4 (.reg .h) 8 s
/-- BIT 4,L (R283). -/
def exec_bit_4_l (s : State) : Out := opBit 4 (.reg .l) 8 s
/-- BIT 4,(HL) (R283). -/
def exec_bit_4_mhl (s : State) : Out := opBit 4 .mem 12 s
/-- BIT 4,A (R283). -/
def exec_bit_4_a (s : State) : Out := opBit 4 (.reg .a) 8 s
/-- BIT 5,B (R283). -/
def exec_bit_5_b (s : State) : Out := opBit 5 (.reg .b) 8 s
/-- BIT 5,C (R283). -/
def exec_bit_5_c (s : State) : Out := opBit 5 (.reg .c) 8 s
/-- BIT 5,D (R283). -/
def exec_bit_5_d (s : State) : Out := opBit 5 (.reg .d) 8 s
/-- BIT 5,E (R283). -/
def exec_bit_5_e (s : State) : Out := opBit 5 (.reg .e) 8 s
/-- BIT 5,H (R283). -/
def exec_bit_5_h (s : State) : Out := opBit 5 (.reg .h) 8 s
/-- BIT 5,L (R283). -/
def exec_bit_5_l (s : State) : Out := opBit 5 (.reg .l) 8 s
/-- BIT 5,(HL) (R283). -/
def exec_bit_5_mhl (s : State) : Out := opBit 5 .mem 12 s
/-- BIT 5,A (R283). -/
def exec_bit_5_a (s : State) : Out := opBit 5 (.reg .a) 8 s
/-- BIT 6,B (R283). -/
def exec_bit_6_b (s : State) : Out := opBit 6 (.reg .b) 8 s
/-- BIT 6,C (R283). -/
def exec_bit_6_c (s : State) : Out := opBit 6 (.reg .c) 8 s
/-- BIT 6,D (R283). -/
def exec_bit_6_d (s : State) : Out := opBit 6 (.reg .d) 8 s
/-- BIT 6,E (R283). -/
def exec_bit_6_e (s : State) : Out := opBit 6 (.reg .e) 8 s
/-- BIT 6,H (R283). -/
def exec_bit_6_h (s : State) : Out := opBit 6 (.reg .h) 8 s
/-- BIT 6,L (R283). -/
def exec_bit_6_l (s : State) : Out := opBit 6 (.reg .l) 8 s
/-- BIT 6,(HL) (R283). -/
def exec_bit_6_mhl (s : State) : Out := opBit 6 .mem 12 s
/-- BIT 6,A (R283). -/
def exec_bit_6_a (s : State) : Out := opBit 6 (.reg .a) 8 s
/-- BIT 7,B (R283). -/
def exec_bit_7_b (s : State) : Out := opBit 7 (.reg .b) 8 s
/-- BIT 7,C (R283). -/
def exec_bit_7_c (s : State) : Out := opBit 7 (.reg .c) 8 s
/-- BIT 7,D (R283). -/
def exec_bit_7_d (s : State) : Out := opBit 7 (.reg .d) 8 s
/-- BIT 7,E (R283). -/
def exec_bit_7_e (s : State) : Out := opBit 7 (.reg .e) 8 s
/-- BIT 7,H (R283). -/
def exec_bit_7_h (s : State) : Out := opBit 7 (.reg .h) 8 s
/-- BIT 7,L (R283). -/
def exec_bit_7_l (s : State) : Out := opBit 7 (.reg .l) 8 s
/-- BIT 7,(HL) (R283). -/
def exec_bit_7_mhl (s : State) : Out := opBit 7 .mem 12 s
/-- BIT 7,A (R283). -/
def exec_bit_7_a (s : State) : Out := opBit 7 (.reg .a) 8 s
/-- RES 0,B (R284). -/
def exec_res_0_b (s : State) : Out := opRes 0 (.reg .b) 8 s
/-- RES 0,C (R284). -/
def exec_res_0_c (s : State) : Out := opRes 0 (.reg .c) 8 s
/-- RES 0,D (R284). -/
def exec_res_0_d (s : State) : Out := opRes 0 (.reg .d) 8 s
/-- RES 0,E (R284). -/
def exec_res_0_e (s : State) : Out := opRes 0 (.reg .e) 8 s
/-- RES 0,H (R284). -/
def exec_res_0_h (s : State) : Out := opRes 0 (.reg .h) 8 s
/-- RES 0,L (R284). -/
def exec_res_0_l (s : State) : Out := opRes 0 (.reg .l) 8 s
/-- RES 0,(HL) (R284). -/
def exec_res_0_mhl (s : State) : Out := opRes 0 .mem 16 s
/-- RES 0,A (R284). -/
def exec_res_0_a (s : State) : Out := opRes 0 (.reg .a) 8 s
/-- RES 1,B (R284). -/
def exec_res_1_b (s : State) : Out := opRes 1 (.reg .b) 8 s
/-- RES 1,C (R284). -/
def exec_res_1_c (s : State) : Out := opRes 1 (.reg .c) 8 s
/-- RES 1,D (R284). -/
def exec_res_1_d (s : State) : Out := opRes 1 (.reg .d) 8 s
/-- RES 1,E (R284). -/
def exec_res_1_e (s : State) : Out := opRes 1 (.reg .e) 8 s
/-- RES 1,H (R284). -/
def exec_res_1_h (s : State) : Out := opRes 1 (.reg .h) 8 s
/-- RES 1,L (R284). -/
def exec_res_1_l (s : State) : Out := opRes 1 (.reg .l) 8 s
/-- RES 1,(HL) (R284). -/
def exec_res_1_mhl (s : State) : Out := opRes 1 .mem 16 s
/-- RES 1,A (R284). -/
def exec_res_1_a (s : State) : Out := opRes 1 (.reg .a) 8 s
/-- RES 2,B (R284). -/
def exec_res_2_b (s : State) : Out := opRes 2 (.reg .b) 8 s
/-- RES 2,C (R284). -/
def exec_res_2_c (s : State) : Out := opRes 2 (.reg .c) 8 s
/-- RES 2,D (R284). -/
def exec_res_2_d (s : State) : Out := opRes 2 (.reg .d) 8 s
/-- RES 2,E (R284). -/
def exec_res_2_e (s : State) : Out := opRes 2 (.reg .e) 8 s
/-- RES 2,H (R284). -/
def exec_res_2_h (s : State) : Out := opRes 2 (.reg .h) 8 s
/-- RES 2,L (R284). -/
def exec_res_2_l (s : State) : Out := opRes 2 (.reg .l) 8 s
/-- RES 2,(HL) (R284). -/
def exec_res_2_mhl (s : State) : Out := opRes 2 .mem 16 s
/-- RES 2,A (R284). -/
def exec_res_2_a (s : State) : Out := opRes 2 (.reg .a) 8 s
/-- RES 3,B (R284). -/
def exec_res_3_b (s : State) : Out := opRes 3 (.reg .b) 8 s
/-- RES 3,C (R284). -/
def exec_res_3_c (s : State) : Out := opRes 3 (.reg .c) 8 s
/-- RES 3,D (R284). -/
def exec_res_3_d (s : State) : Out := opRes 3 (.reg .d) 8 s
/-- RES 3,E (R284). -/
def exec_res_3_e (s : State) : Out := opRes 3 (.reg .e) 8 s
/-- RES 3,H (R284). -/
def exec_res_3_h (s : State) : Out := opRes 3 (.reg .h) 8 s
/-- RES 3,L (R284). -/
def exec_res_3_l (s : State) : Out := opRes 3 (.reg .l) 8 s
/-- RES 3,(HL) (R284). -/
def exec_res_3_mhl (s : State) : Out := opRes 3 .mem 16 s
/-- RES 3,A (R284). -/
def exec_res_3_a (s : State) : Out := opRes 3 (.reg .a) 8 s
/-- RES 4,B (R284). -/
def exec_res_4_b (s : State) : Out := opRes 4 (.reg .b) 8 s
/-- RES 4,C (R284). -/
def exec_res_4_c (s : State) : Out := opRes 4 (.reg .c) 8 s
/-- RES 4,D (R284). -/
def exec_res_4_d (s : State) : Out := opRes 4 (.reg .d) 8 s
/-- RES 4,E (R284). -/
def exec_res_4_e (s : State) : Out := opRes 4 (.reg .e) 8 s
/-- RES 4,H (R284). -/
def exec_res_4_h (s : State) : Out := opRes 4 (.reg .h) 8 s
/-- RES 4,L (R284). -/
def exec_res_4_l (s : State) : Out := opRes 4 (.reg .l) 8 s
/-- RES 4,(HL) (R284). -/
def exec_res_4_mhl (s : State) : Out := opRes 4 .mem 16 s
/-- RES 4,A (R284). -/
def exec_res_4_a (s : State) : Out := opRes 4 (.reg .a) 8 s
/-- RES 5,B (R284). -/
def exec_res_5_b (s : State) : Out := opRes 5 (.reg .b) 8 s
/-- RES 5,C (R284). -/
def exec_res_5_c (s : State) : Out := opRes 5 (.reg .c) 8 s
/-- RES 5,D (R284). -/
def exec_res_5_d (s : State) : Out := opRes 5 (.reg .d) 8 s
/-- RES 5,E (R284). -/
def exec_res_5_e (s : State) : Out := opRes 5 (.reg .e) 8 s
/-- RES 5,H (R284). -/
def exec_res_5_h (s : State) : Out := opRes 5 (.reg .h) 8 s
/-- RES 5,L (R284). -/
def exec_res_5_l (s : State) : Out := opRes 5 (.reg .l) 8 s
/-- RES 5,(HL) (R284). -/
def exec_res_5_mhl (s : State) : Out := opRes 5 .mem 16 s
/-- RES 5,A (R284). -/
def exec_res_5_a (s : State) : Out := opRes 5 (.reg .a) 8 s
/-- RES 6,B (R284). -/
def exec_res_6_b (s : State) : Out := opRes 6 (.reg .b) 8 s
/-- RES 6,C (R284). -/
def exec_res_6_c (s : State) : Out := opRes 6 (.reg .c) 8 s
/-- RES 6,D (R284). -/
def exec_res_6_d (s : State) : Out := opRes 6 (.reg .d) 8 s
/-- RES 6,E (R284). -/
def exec_res_6_e (s : State) : Out := opRes 6 (.reg .e) 8 s
/-- RES 6,H (R284). -/
def exec_res_6_h (s : State) : Out := opRes 6 (.reg .h) 8 s
/-- RES 6,L (R284). -/
def exec_res_6_l (s : State) : Out := opRes 6 (.reg .l) 8 s
/-- RES 6,(HL) (R284). -/
def exec_res_6_mhl (s : State) : Out := opRes 6 .mem 16 s
/-- RES 6,A (R284). -/
def exec_res_6_a (s : State) : Out := opRes 6 (.reg .a) 8 s
/-- RES 7,B (R284). -/
def exec_res_7_b (s : State) : Out := opRes 7 (.reg .b) 8 s
/-- RES 7,C (R284). -/
def exec_res_7_c (s : State) : Out := opRes 7 (.reg .c) 8 s
/-- RES 7,D (R284). -/
def exec_res_7_d (s : State) : Out := opRes 7 (.reg .d) 8 s
/-- RES 7,E (R284). -/
def exec_res_7_e (s : State) : Out := opRes 7 (.reg .e) 8 s
/-- RES 7,H (R284). -/
def exec_res_7_h (s : State) : Out := opRes 7 (.reg .h) 8 s
/-- RES 7,L (R284). -/
def exec_res_7_l (s : State) : Out := opRes 7 (.reg .l) 8 s
/-- RES 7,(HL) (R284). -/
def exec_res_7_mhl (s : State) : Out := opRes 7 .mem 16 s
/-- RES 7,A (R284). -/
def exec_res_7_a (s : State) : Out := opRes 7 (.reg .a) 8 s
/-- SET 0,B (R285). -/
def exec_set_0_b (s : State) : Out := opSet 0 (.reg .b) 8 s
/-- SET 0,C (R285). -/
def exec_set_0_c (s : State) : Out := opSet 0 (.reg .c) 8 s
/-- SET 0,D (R285). -/
def exec_set_0_d (s : State) : Out := opSet 0 (.reg .d) 8 s
/-- SET 0,E (R285). -/
def exec_set_0_e (s : State) : Out := opSet 0 (.reg .e) 8 s
/-- SET 0,H (R285). -/
def exec_set_0_h (s : State) : Out := opSet 0 (.reg .h) 8 s
/-- SET 0,L (R285). -/
def exec_set_0_l (s : State) : Out := opSet 0 (.reg .l) 8 s
/-- SET 0,(HL) (R285). -/
def exec_set_0_mhl (s : State) : Out := opSet 0 .mem 16 s
/-- SET 0,A (R285). -/
def exec_set_0_a (s : State) : Out := opSet 0 (.reg .a) 8 s
/-- SET 1,B (R285). -/
def exec_set_1_b (s : State) : Out := opSet 1 (.reg .b) 8 s
/-- SET 1,C (R285). -/
def exec_set_1_c (s : State) : Out := opSet 1 (.reg .c) 8 s
/-- SET 1,D (R285). -/
def exec_set_1_d (s : State) : Out := opSet 1 (.reg .d) 8 s
/-- SET 1,E (R285). -/
def exec_set_1_e (s : State) : Out := opSet 1 (.reg .e) 8 s
/-- SET 1,H (R285). -/
def exec_set_1_h (s : State) : Out := opSet 1 (.reg .h) 8 s
/-- SET 1,L (R285). -/
def exec_set_1_l (s : State) : Out := opSet 1 (.reg .l) 8 s
/-- SET 1,(HL) (R285). -/
def exec_set_1_mhl (s : State) : Out := opSet 1 .mem 16 s
/-- SET 1,A (R285). -/
def exec_set_1_a (s : State) : Out := opSet 1 (.reg .a) 8 s
/-- SET 2,B (R285). -/
def exec_set_2_b (s : State) : Out := opSet 2 (.reg .b) 8 s
/-- SET 2,C (R285). -/
def exec_set_2_c (s : State) : Out := opSet 2 (.reg .c) 8 s
/-- SET 2,D (R285). -/
def exec_set_2_d (s : State) : Out := opSet 2 (.reg .d) 8 s
/-- SET 2,E (R285). -/
def exec_set_2_e (s : State) : Out := opSet 2 (.reg .e) 8 s
/-- SET 2,H (R285). -/
def exec_set_2_h (s : State) : Out := opSet 2 (.reg .h) 8 s
/-- SET 2,L (R285). -/
def exec_set_2_l (s : State) : Out := opSet 2 (.reg .l) 8 s
/-- SET 2,(HL) (R285). -/
def exec_set_2_mhl (s : State) : Out := opSet 2 .mem 16 s
/-- SET 2,A (R285). -/
def exec_set_2_a (s : State) : Out := opSet 2 (.reg .a) 8 s
/-- SET 3,B (R285). -/
def exec_set_3_b (s : State) : Out := opSet 3 (.reg .b) 8 s
/-- SET 3,C (R285). -/
def exec_set_3_c (s : State) : Out := opSet 3 (.reg .c) 8 s
/-- SET 3,D (R285). -/
def exec_set_3_d (s : State) : Out := opSet 3 (.reg .d) 8 s
/-- SET 3,E (R285). -/
def exec_set_3_e (s : State) : Out := opSet 3 (.reg .e) 8 s
/-- SET 3,H (R285). -/
def exec_set_3_h (s : State) : Out := opSet 3 (.reg .h) 8 s
/-- SET 3,L (R285). -/
def exec_set_3_l (s : State) : Out := opSet 3 (.reg .l) 8 s
/-- SET 3,(HL) (R285). -/
def exec_set_3_mhl (s : State) : Out := opSet 3 .mem 16 s
/-- SET 3,A (R285). -/
def exec_set_3_a (s : State) : Out := opSet 3 (.reg .a) 8 s
/-- SET 4,B (R285). -/
def exec_set_4_b (s : State) : Out := opSet 4 (.reg .b) 8 s
/-- SET 4,C (R285). -/
def exec_set_4_c (s : State) : Out := opSet 4 (.reg .c) 8 s
/-- SET 4,D (R285). -/
def exec_set_4_d (s : State) : Out := opSet 4 (.reg .d) 8 s
/-- SET 4,E (R285). -/
def exec_set_4_e (s : State) : Out := opSet 4 (.reg .e) 8 s
/-- SET 4,H (R285). -/
def exec_set_4_h (s : State) : Out := opSet 4 (.reg .h) 8 s
/-- SET 4,L (R285). -/
def exec_set_4_l (s : State) : Out := opSet 4 (.reg .l) 8 s
/-- SET 4,(HL) (R285). -/
def exec_set_4_mhl (s : State) : Out := opSet 4 .mem 16 s
/-- SET 4,A (R285). -/
def exec_set_4_a (s : State) : Out := opSet 4 (.reg .a) 8 s
/-- SET 5,B (R285). -/
def exec_set_5_b (s : State) : Out := opSet 5 (.reg .b) 8 s
/-- SET 5,C (R285). -/
def exec_set_5_c (s : State) : Out := opSet 5 (.reg .c) 8 s
/-- SET 5,D (R285). -/
def exec_set_5_d (s : State) : Out := opSet 5 (.reg .d) 8 s
/-- SET 5,E (R285). -/
def exec_set_5_e (s : State) : Out := opSet 5 (.reg .e) 8 s
/-- SET 5,H (R285). -/
def exec_set_5_h (s : State) : Out := opSet 5 (.reg .h) 8 s
/-- SET 5,L (R285). -/
def exec_set_5_l (s : State) : Out := opSet 5 (.reg .l) 8 s
/-- SET 5,(HL) (R285). -/
def exec_set_5_mhl (s : State) : Out := opSet 5 .mem 16 s
/-- SET 5,A (R285). -/
def exec_set_5_a (s : State) : Out := opSet 5 (.reg .a) 8 s
/-- SET 6,B (R285). -/
def exec_set_6_b (s : State) : Out := opSet 6 (.reg .b) 8 s
/-- SET 6,C (R285). -/
def exec_set_6_c (s : State) : Out := opSet 6 (.reg .c) 8 s
/-- SET 6,D (R285). -/
def exec_set_6_d (s : State) : Out := opSet 6 (.reg .d) 8 s
/-- SET 6,E (R285). -/
def exec_set_6_e (s : State) : Out := opSet 6 (.reg .e) 8 s
/-- SET 6,H (R285). -/
def exec_set_6_h (s : State) : Out := opSet 6 (.reg .h) 8 s
/-- SET 6,L (R285). -/
def exec_set_6_l (s : State) : Out := opSet 6 (.reg .l) 8 s
/-- SET 6,(HL) (R285). -/
def exec_set_6_mhl (s : State) : Out := opSet 6 .mem 16 s
/-- SET 6,A (R285). -/
def exec_set_6_a (s : State) : Out := opSet 6 (.reg .a) 8 s
/-- SET 7,B (R285). -/
def exec_set_7_b (s : State) : Out := opSet 7 (.reg .b) 8 s
/-- SET 7,C (R285). -/
def exec_set_7_c (s : State) : Out := opSet 7 (.reg .c) 8 s
/-- SET 7,D (R285). -/
def exec_set_7_d (s : State) : Out := opSet 7 (.reg .d) 8 s
/-- SET 7,E (R285). -/
def exec_set_7_e (s : State) : Out := opSet 7 (.reg .e) 8 s
/-- SET 7,H (R285). -/
def exec_set_7_h (s : State) : Out := opSet 7 (.reg .h) 8 s
/-- SET 7,L (R285). -/
def exec_set_7_l (s : State) : Out := opSet 7 (.reg .l) 8 s
/-- SET 7,(HL) (R285). -/
def exec_set_7_mhl (s : State) : Out := opSet 7 .mem 16 s
/-- SET 7,A (R285). -/
def exec_set_7_a (s : State) : Out := opSet 7 (.reg .a) 8 s

end Sys2Proof.Machine
end

