-- ==== Sys2Proof/Machine/Control.lean ====
section
/-! DEFINITION. Control transfer (44_control.md R300-R313). PC already holds the address after the
instruction. -/

namespace Sys2Proof.Machine

/-- JP nn (R301). -/
def opJp (nn : Word) (cycles : Nat) (s : State) : Out := (s.setPc nn).done cycles

/-- JP cc,nn (R302). -/
def opJpCond (cc : Cond) (nn : Word) (taken notTaken : Nat) (s : State) : Out :=
  if s.cond cc then (s.setPc nn).done taken else s.done notTaken

/-- JP (HL): the register value (R303). -/
def opJpHl (cycles : Nat) (s : State) : Out := (s.setPc s.hl).done cycles

/-- JR e8 (R304). -/
def opJr (e : Byte) (cycles : Nat) (s : State) : Out := (s.setPc (s.cpu.pc + sext16 e)).done cycles

/-- JR cc,e8 (R305). -/
def opJrCond (cc : Cond) (e : Byte) (taken notTaken : Nat) (s : State) : Out :=
  if s.cond cc then (s.setPc (s.cpu.pc + sext16 e)).done taken else s.done notTaken

/-- CALL nn (R306). -/
def opCall (nn : Word) (cycles : Nat) (s : State) : Out := ((s.push16 s.cpu.pc).setPc nn).done cycles

/-- CALL cc,nn (R307). -/
def opCallCond (cc : Cond) (nn : Word) (taken notTaken : Nat) (s : State) : Out :=
  if s.cond cc then ((s.push16 s.cpu.pc).setPc nn).done taken else s.done notTaken

/-- RET (R308). -/
def opRet (cycles : Nat) (s : State) : Out := s.popPc.done cycles

/-- RET cc (R309). -/
def opRetCond (cc : Cond) (taken notTaken : Nat) (s : State) : Out :=
  if s.cond cc then s.popPc.done taken else s.done notTaken

/-- RETI (R311). -/
def opReti (cycles : Nat) (s : State) : Out := s.returnFromInterrupt.done cycles

/-- RST t (R312). -/
def opRst (target : Word) (cycles : Nat) (s : State) : Out := ((s.push16 s.cpu.pc).setPc target).done cycles

/-- JR e8 (R304). -/
def exec_jr_e8 (e : Byte) (s : State) : Out := opJr e 12 s
/-- JR NZ,e8 (R305). -/
def exec_jr_nz_e8 (e : Byte) (s : State) : Out := opJrCond .nz e 12 8 s
/-- JR Z,e8 (R305). -/
def exec_jr_z_e8 (e : Byte) (s : State) : Out := opJrCond .z e 12 8 s
/-- JR NC,e8 (R305). -/
def exec_jr_nc_e8 (e : Byte) (s : State) : Out := opJrCond .nc e 12 8 s
/-- JR C,e8 (R305). -/
def exec_jr_c_e8 (e : Byte) (s : State) : Out := opJrCond .c e 12 8 s
/-- RET NZ (R309). -/
def exec_ret_nz (s : State) : Out := opRetCond .nz 20 8 s
/-- JP NZ,a16 (R302). -/
def exec_jp_nz_a16 (nn : Word) (s : State) : Out := opJpCond .nz nn 16 12 s
/-- JP a16 (R301). -/
def exec_jp_a16 (nn : Word) (s : State) : Out := opJp nn 16 s
/-- CALL NZ,a16 (R307). -/
def exec_call_nz_a16 (nn : Word) (s : State) : Out := opCallCond .nz nn 24 12 s
/-- RST 00H (R312). -/
def exec_rst_00 (s : State) : Out := opRst 0x00#16 16 s
/-- RET Z (R309). -/
def exec_ret_z (s : State) : Out := opRetCond .z 20 8 s
/-- RET (R308). -/
def exec_ret (s : State) : Out := opRet 16 s
/-- JP Z,a16 (R302). -/
def exec_jp_z_a16 (nn : Word) (s : State) : Out := opJpCond .z nn 16 12 s
/-- CALL Z,a16 (R307). -/
def exec_call_z_a16 (nn : Word) (s : State) : Out := opCallCond .z nn 24 12 s
/-- CALL a16 (R306). -/
def exec_call_a16 (nn : Word) (s : State) : Out := opCall nn 24 s
/-- RST 08H (R312). -/
def exec_rst_08 (s : State) : Out := opRst 0x08#16 16 s
/-- RET NC (R309). -/
def exec_ret_nc (s : State) : Out := opRetCond .nc 20 8 s
/-- JP NC,a16 (R302). -/
def exec_jp_nc_a16 (nn : Word) (s : State) : Out := opJpCond .nc nn 16 12 s
/-- CALL NC,a16 (R307). -/
def exec_call_nc_a16 (nn : Word) (s : State) : Out := opCallCond .nc nn 24 12 s
/-- RST 10H (R312). -/
def exec_rst_10 (s : State) : Out := opRst 0x10#16 16 s
/-- RET C (R309). -/
def exec_ret_c (s : State) : Out := opRetCond .c 20 8 s
/-- RETI (R311). -/
def exec_reti (s : State) : Out := opReti 16 s
/-- JP C,a16 (R302). -/
def exec_jp_c_a16 (nn : Word) (s : State) : Out := opJpCond .c nn 16 12 s
/-- CALL C,a16 (R307). -/
def exec_call_c_a16 (nn : Word) (s : State) : Out := opCallCond .c nn 24 12 s
/-- RST 18H (R312). -/
def exec_rst_18 (s : State) : Out := opRst 0x18#16 16 s
/-- RST 20H (R312). -/
def exec_rst_20 (s : State) : Out := opRst 0x20#16 16 s
/-- JP (HL) (R303). -/
def exec_jp_hl (s : State) : Out := opJpHl 4 s
/-- RST 28H (R312). -/
def exec_rst_28 (s : State) : Out := opRst 0x28#16 16 s
/-- RST 30H (R312). -/
def exec_rst_30 (s : State) : Out := opRst 0x30#16 16 s
/-- RST 38H (R312). -/
def exec_rst_38 (s : State) : Out := opRst 0x38#16 16 s

end Sys2Proof.Machine
end

