-- ==== Sys2Proof/Machine/Rotate.lean ====
section
/-! DEFINITION. Rotates and shifts (43_rotate_shift_bit.md R270-R282). -/

namespace Sys2Proof.Machine

/-- The accumulator rotates: Z is 0 (R270-R273). -/
def opRotA (op : RotOp) (cycles : Nat) (s : State) : Out :=
  let r := rotResult op s.cpu.a s.flagC
  ((s.setReg8 .a r.1).setFlags false false false r.2).done cycles

/-- The CB rotates and shifts: Z is computed (R274-R282). -/
def opRot (op : RotOp) (o : Opnd) (cycles : Nat) (s : State) : Out :=
  let v := s.readOpnd o
  let r := rotResult op v.1 s.flagC
  ((v.2.writeOpnd o r.1).setFlags (zeroM r.1) false false r.2).done cycles

/-- RLCA (R270). -/
def exec_rlca (s : State) : Out := opRotA .rlc 4 s
/-- RRCA (R271). -/
def exec_rrca (s : State) : Out := opRotA .rrc 4 s
/-- RLA (R272). -/
def exec_rla (s : State) : Out := opRotA .rl 4 s
/-- RRA (R273). -/
def exec_rra (s : State) : Out := opRotA .rr 4 s
/-- RLC B (R275). -/
def exec_rlc_b (s : State) : Out := opRot .rlc (.reg .b) 8 s
/-- RLC C (R275). -/
def exec_rlc_c (s : State) : Out := opRot .rlc (.reg .c) 8 s
/-- RLC D (R275). -/
def exec_rlc_d (s : State) : Out := opRot .rlc (.reg .d) 8 s
/-- RLC E (R275). -/
def exec_rlc_e (s : State) : Out := opRot .rlc (.reg .e) 8 s
/-- RLC H (R275). -/
def exec_rlc_h (s : State) : Out := opRot .rlc (.reg .h) 8 s
/-- RLC L (R275). -/
def exec_rlc_l (s : State) : Out := opRot .rlc (.reg .l) 8 s
/-- RLC (HL) (R275). -/
def exec_rlc_mhl (s : State) : Out := opRot .rlc .mem 16 s
/-- RLC A (R275). -/
def exec_rlc_a (s : State) : Out := opRot .rlc (.reg .a) 8 s
/-- RRC B (R276). -/
def exec_rrc_b (s : State) : Out := opRot .rrc (.reg .b) 8 s
/-- RRC C (R276). -/
def exec_rrc_c (s : State) : Out := opRot .rrc (.reg .c) 8 s
/-- RRC D (R276). -/
def exec_rrc_d (s : State) : Out := opRot .rrc (.reg .d) 8 s
/-- RRC E (R276). -/
def exec_rrc_e (s : State) : Out := opRot .rrc (.reg .e) 8 s
/-- RRC H (R276). -/
def exec_rrc_h (s : State) : Out := opRot .rrc (.reg .h) 8 s
/-- RRC L (R276). -/
def exec_rrc_l (s : State) : Out := opRot .rrc (.reg .l) 8 s
/-- RRC (HL) (R276). -/
def exec_rrc_mhl (s : State) : Out := opRot .rrc .mem 16 s
/-- RRC A (R276). -/
def exec_rrc_a (s : State) : Out := opRot .rrc (.reg .a) 8 s
/-- RL B (R277). -/
def exec_rl_b (s : State) : Out := opRot .rl (.reg .b) 8 s
/-- RL C (R277). -/
def exec_rl_c (s : State) : Out := opRot .rl (.reg .c) 8 s
/-- RL D (R277). -/
def exec_rl_d (s : State) : Out := opRot .rl (.reg .d) 8 s
/-- RL E (R277). -/
def exec_rl_e (s : State) : Out := opRot .rl (.reg .e) 8 s
/-- RL H (R277). -/
def exec_rl_h (s : State) : Out := opRot .rl (.reg .h) 8 s
/-- RL L (R277). -/
def exec_rl_l (s : State) : Out := opRot .rl (.reg .l) 8 s
/-- RL (HL) (R277). -/
def exec_rl_mhl (s : State) : Out := opRot .rl .mem 16 s
/-- RL A (R277). -/
def exec_rl_a (s : State) : Out := opRot .rl (.reg .a) 8 s
/-- RR B (R278). -/
def exec_rr_b (s : State) : Out := opRot .rr (.reg .b) 8 s
/-- RR C (R278). -/
def exec_rr_c (s : State) : Out := opRot .rr (.reg .c) 8 s
/-- RR D (R278). -/
def exec_rr_d (s : State) : Out := opRot .rr (.reg .d) 8 s
/-- RR E (R278). -/
def exec_rr_e (s : State) : Out := opRot .rr (.reg .e) 8 s
/-- RR H (R278). -/
def exec_rr_h (s : State) : Out := opRot .rr (.reg .h) 8 s
/-- RR L (R278). -/
def exec_rr_l (s : State) : Out := opRot .rr (.reg .l) 8 s
/-- RR (HL) (R278). -/
def exec_rr_mhl (s : State) : Out := opRot .rr .mem 16 s
/-- RR A (R278). -/
def exec_rr_a (s : State) : Out := opRot .rr (.reg .a) 8 s
/-- SLA B (R279). -/
def exec_sla_b (s : State) : Out := opRot .sla (.reg .b) 8 s
/-- SLA C (R279). -/
def exec_sla_c (s : State) : Out := opRot .sla (.reg .c) 8 s
/-- SLA D (R279). -/
def exec_sla_d (s : State) : Out := opRot .sla (.reg .d) 8 s
/-- SLA E (R279). -/
def exec_sla_e (s : State) : Out := opRot .sla (.reg .e) 8 s
/-- SLA H (R279). -/
def exec_sla_h (s : State) : Out := opRot .sla (.reg .h) 8 s
/-- SLA L (R279). -/
def exec_sla_l (s : State) : Out := opRot .sla (.reg .l) 8 s
/-- SLA (HL) (R279). -/
def exec_sla_mhl (s : State) : Out := opRot .sla .mem 16 s
/-- SLA A (R279). -/
def exec_sla_a (s : State) : Out := opRot .sla (.reg .a) 8 s
/-- SRA B (R280). -/
def exec_sra_b (s : State) : Out := opRot .sra (.reg .b) 8 s
/-- SRA C (R280). -/
def exec_sra_c (s : State) : Out := opRot .sra (.reg .c) 8 s
/-- SRA D (R280). -/
def exec_sra_d (s : State) : Out := opRot .sra (.reg .d) 8 s
/-- SRA E (R280). -/
def exec_sra_e (s : State) : Out := opRot .sra (.reg .e) 8 s
/-- SRA H (R280). -/
def exec_sra_h (s : State) : Out := opRot .sra (.reg .h) 8 s
/-- SRA L (R280). -/
def exec_sra_l (s : State) : Out := opRot .sra (.reg .l) 8 s
/-- SRA (HL) (R280). -/
def exec_sra_mhl (s : State) : Out := opRot .sra .mem 16 s
/-- SRA A (R280). -/
def exec_sra_a (s : State) : Out := opRot .sra (.reg .a) 8 s
/-- SWAP B (R281). -/
def exec_swap_b (s : State) : Out := opRot .swap (.reg .b) 8 s
/-- SWAP C (R281). -/
def exec_swap_c (s : State) : Out := opRot .swap (.reg .c) 8 s
/-- SWAP D (R281). -/
def exec_swap_d (s : State) : Out := opRot .swap (.reg .d) 8 s
/-- SWAP E (R281). -/
def exec_swap_e (s : State) : Out := opRot .swap (.reg .e) 8 s
/-- SWAP H (R281). -/
def exec_swap_h (s : State) : Out := opRot .swap (.reg .h) 8 s
/-- SWAP L (R281). -/
def exec_swap_l (s : State) : Out := opRot .swap (.reg .l) 8 s
/-- SWAP (HL) (R281). -/
def exec_swap_mhl (s : State) : Out := opRot .swap .mem 16 s
/-- SWAP A (R281). -/
def exec_swap_a (s : State) : Out := opRot .swap (.reg .a) 8 s
/-- SRL B (R282). -/
def exec_srl_b (s : State) : Out := opRot .srl (.reg .b) 8 s
/-- SRL C (R282). -/
def exec_srl_c (s : State) : Out := opRot .srl (.reg .c) 8 s
/-- SRL D (R282). -/
def exec_srl_d (s : State) : Out := opRot .srl (.reg .d) 8 s
/-- SRL E (R282). -/
def exec_srl_e (s : State) : Out := opRot .srl (.reg .e) 8 s
/-- SRL H (R282). -/
def exec_srl_h (s : State) : Out := opRot .srl (.reg .h) 8 s
/-- SRL L (R282). -/
def exec_srl_l (s : State) : Out := opRot .srl (.reg .l) 8 s
/-- SRL (HL) (R282). -/
def exec_srl_mhl (s : State) : Out := opRot .srl .mem 16 s
/-- SRL A (R282). -/
def exec_srl_a (s : State) : Out := opRot .srl (.reg .a) 8 s

end Sys2Proof.Machine
end

