-- ==== Sys2Proof/Machine/CpuControl.lean ====
section
/-! DEFINITION. CPU control (45_cpu_control.md R330-R336). -/

namespace Sys2Proof.Machine

/-- NOP (R330). -/
def opNop (cycles : Nat) (s : State) : Out := s.done cycles

/-- HALT (R331). -/
def opHalt (cycles : Nat) (s : State) : Out := (s.setHalted true).done cycles

/-- STOP (R332): it takes the fatal outcome. -/
def opStop (s : State) : Out := .next (s.raiseFatal .stopInstruction)

/-- DI (R333). -/
def opDi (cycles : Nat) (s : State) : Out := (s.setIme false).done cycles

/-- EI (R334). -/
def opEi (cycles : Nat) (s : State) : Out := (s.setIme true).done cycles

/-- The fatal outcome of an undecodable opcode fetched from `addr`, with its diagnostic (R335,
60_exceptions.md R391). -/
def State.raiseIllegal (s : State) (op : Byte) (addr : Word) : State :=
  (s.note (.diag (.illegalOpcode op addr))).raiseFatal (.illegalOpcode op addr)

/-- An illegal opcode (R335): its address is one before PC, since only the opcode byte was fetched. -/
def opIllegal (op : Byte) (s : State) : Out := .next (s.raiseIllegal op (s.cpu.pc - 1#16))

/-- The register operand of field `z` (30_encoding.md R112). -/
def opndOf (z : Nat) : Opnd :=
  match z with
  | 0 => .reg .b
  | 1 => .reg .c
  | 2 => .reg .d
  | 3 => .reg .e
  | 4 => .reg .h
  | 5 => .reg .l
  | 6 => .mem
  | _ => .reg .a

/-- The operation of field `y` in the rotate group (30_encoding.md R120). -/
def rotOpOf (y : Nat) : RotOp :=
  match y with
  | 0 => .rlc
  | 1 => .rrc
  | 2 => .rl
  | 3 => .rr
  | 4 => .sla
  | 5 => .sra
  | 6 => .swap
  | _ => .srl

/-- The cycles of a CB instruction that writes its operand (30_encoding.md R127). -/
def cbCycles (o : Opnd) : Nat :=
  match o with
  | .mem => 16
  | .reg _ => 8

/-- The cycles of BIT (30_encoding.md R127). -/
def cbBitCycles (o : Opnd) : Nat :=
  match o with
  | .mem => 12
  | .reg _ => 8

/-- `execute CB[op2]` by the fields `x`, `y`, `z` of the sub-opcode (43_rotate_shift_bit.md R274,
30_encoding.md R120). -/
def opCb (op2 : Byte) (s : State) : Out :=
  let y : Fin 8 := Fin.ofNat 8 (op2.toNat / 8)
  let o := opndOf (op2.toNat % 8)
  match op2.toNat / 64 with
  | 0 => opRot (rotOpOf y.val) o (cbCycles o) s
  | 1 => opBit y o (cbBitCycles o) s
  | 2 => opRes y o (cbCycles o) s
  | _ => opSet y o (cbCycles o) s

/-- NOP (R330). -/
def exec_nop (s : State) : Out := opNop 4 s
/-- STOP (R332). -/
def exec_stop (s : State) : Out := opStop s
/-- HALT (R331). -/
def exec_halt (s : State) : Out := opHalt 4 s
/-- (CB prefix) (R336). -/
def exec_cb_prefix (op2 : Byte) (s : State) : Out := opCb op2 s
/-- ILLEGAL 0xD3 (R335). -/
def exec_illegal_d3 (s : State) : Out := opIllegal 0xD3#8 s
/-- ILLEGAL 0xDB (R335). -/
def exec_illegal_db (s : State) : Out := opIllegal 0xDB#8 s
/-- ILLEGAL 0xDD (R335). -/
def exec_illegal_dd (s : State) : Out := opIllegal 0xDD#8 s
/-- ILLEGAL 0xE3 (R335). -/
def exec_illegal_e3 (s : State) : Out := opIllegal 0xE3#8 s
/-- ILLEGAL 0xE4 (R335). -/
def exec_illegal_e4 (s : State) : Out := opIllegal 0xE4#8 s
/-- ILLEGAL 0xEB (R335). -/
def exec_illegal_eb (s : State) : Out := opIllegal 0xEB#8 s
/-- ILLEGAL 0xEC (R335). -/
def exec_illegal_ec (s : State) : Out := opIllegal 0xEC#8 s
/-- ILLEGAL 0xED (R335). -/
def exec_illegal_ed (s : State) : Out := opIllegal 0xED#8 s
/-- DI (R333). -/
def exec_di (s : State) : Out := opDi 4 s
/-- ILLEGAL 0xF4 (R335). -/
def exec_illegal_f4 (s : State) : Out := opIllegal 0xF4#8 s
/-- EI (R334). -/
def exec_ei (s : State) : Out := opEi 4 s
/-- ILLEGAL 0xFC (R335). -/
def exec_illegal_fc (s : State) : Out := opIllegal 0xFC#8 s
/-- ILLEGAL 0xFD (R335). -/
def exec_illegal_fd (s : State) : Out := opIllegal 0xFD#8 s

end Sys2Proof.Machine
end

