-- ==== Sys2Proof/Machine/Loads.lean ====
section
/-! DEFINITION. Loads, stores and the stack (40_loads.md R149-R173). -/

namespace Sys2Proof.Machine

/-- The addressing modes of a one-byte load or store without a base update (R149). -/
inductive AddrMode where
  | bc
  | de
  | hl
  | abs (nn : Word)
  | high (n : Byte)
  | highC
  deriving DecidableEq, Repr

/-- The effective address of a mode (R149). -/
def State.effective (s : State) : AddrMode → Word
  | .bc => s.bc
  | .de => s.de
  | .hl => s.hl
  | .abs nn => nn
  | .high n => highPage n
  | .highC => highPage s.cpu.c

/-- Register to register (R150). -/
def opLd (dst src : Reg8) (cycles : Nat) (s : State) : Out := (s.setReg8 dst (s.reg8 src)).done cycles

/-- Immediate to register (R151). -/
def opLdImm (dst : Reg8) (n : Byte) (cycles : Nat) (s : State) : Out := (s.setReg8 dst n).done cycles

/-- Memory to register (R152, R155, R156, R159, R161, R163). -/
def opLoad (dst : Reg8) (mode : AddrMode) (cycles : Nat) (s : State) : Out :=
  let r := s.memRead (s.effective mode)
  (r.2.setReg8 dst r.1).done cycles

/-- Register to memory (R153, R157, R158, R160, R162, R164). -/
def opStore (mode : AddrMode) (src : Reg8) (cycles : Nat) (s : State) : Out :=
  (s.memWrite (s.effective mode) (s.reg8 src)).done cycles

/-- Immediate to the byte at HL (R154). -/
def opStoreImm (n : Byte) (cycles : Nat) (s : State) : Out := (s.memWrite s.hl n).done cycles

/-- Store A at HL, then add `step` to HL (R165, R167). -/
def opStoreStep (step : Word) (cycles : Nat) (s : State) : Out :=
  ((s.memWrite s.hl s.cpu.a).setHl (s.hl + step)).done cycles

/-- Load A from HL, then add `step` to HL (R166, R168). -/
def opLoadStep (step : Word) (cycles : Nat) (s : State) : Out :=
  let r := s.memRead s.hl
  ((r.2.setReg8 .a r.1).setHl (s.hl + step)).done cycles

/-- Immediate to pair (R169). -/
def opLdPair (p : Pair) (nn : Word) (cycles : Nat) (s : State) : Out := (s.setPair p nn).done cycles

/-- SP to memory, the low byte first (R170). -/
def opStoreSp (nn : Word) (cycles : Nat) (s : State) : Out :=
  ((s.memWrite nn (loByte s.cpu.sp)).memWrite (nn + 1#16) (hiByte s.cpu.sp)).done cycles

/-- HL to SP (R171). -/
def opLdSpHl (cycles : Nat) (s : State) : Out := (s.setSp s.hl).done cycles

/-- Pop a pair (R172). -/
def opPop (p : StackPair) (cycles : Nat) (s : State) : Out :=
  let r := s.pop16
  (r.2.setStackPair p r.1).done cycles

/-- Push a pair (R173). -/
def opPush (p : StackPair) (cycles : Nat) (s : State) : Out := (s.push16 (s.stackPair p)).done cycles

/-- LD BC,d16 (R169). -/
def exec_ld_bc_d16 (nn : Word) (s : State) : Out := opLdPair .bc nn 12 s
/-- LD (BC),A (R157). -/
def exec_ld_mbc_a (s : State) : Out := opStore .bc .a 8 s
/-- LD B,d8 (R151). -/
def exec_ld_b_d8 (n : Byte) (s : State) : Out := opLdImm .b n 8 s
/-- LD (a16),SP (R170). -/
def exec_ld_ma16_sp (nn : Word) (s : State) : Out := opStoreSp nn 20 s
/-- LD A,(BC) (R155). -/
def exec_ld_a_mbc (s : State) : Out := opLoad .a .bc 8 s
/-- LD C,d8 (R151). -/
def exec_ld_c_d8 (n : Byte) (s : State) : Out := opLdImm .c n 8 s
/-- LD DE,d16 (R169). -/
def exec_ld_de_d16 (nn : Word) (s : State) : Out := opLdPair .de nn 12 s
/-- LD (DE),A (R158). -/
def exec_ld_mde_a (s : State) : Out := opStore .de .a 8 s
/-- LD D,d8 (R151). -/
def exec_ld_d_d8 (n : Byte) (s : State) : Out := opLdImm .d n 8 s
/-- LD A,(DE) (R156). -/
def exec_ld_a_mde (s : State) : Out := opLoad .a .de 8 s
/-- LD E,d8 (R151). -/
def exec_ld_e_d8 (n : Byte) (s : State) : Out := opLdImm .e n 8 s
/-- LD HL,d16 (R169). -/
def exec_ld_hl_d16 (nn : Word) (s : State) : Out := opLdPair .hl nn 12 s
/-- LD (HL+),A (R165). -/
def exec_ld_mhli_a (s : State) : Out := opStoreStep 1#16 8 s
/-- LD H,d8 (R151). -/
def exec_ld_h_d8 (n : Byte) (s : State) : Out := opLdImm .h n 8 s
/-- LD A,(HL+) (R166). -/
def exec_ld_a_mhli (s : State) : Out := opLoadStep 1#16 8 s
/-- LD L,d8 (R151). -/
def exec_ld_l_d8 (n : Byte) (s : State) : Out := opLdImm .l n 8 s
/-- LD SP,d16 (R169). -/
def exec_ld_sp_d16 (nn : Word) (s : State) : Out := opLdPair .sp nn 12 s
/-- LD (HL-),A (R167). -/
def exec_ld_mhld_a (s : State) : Out := opStoreStep 0xFFFF#16 8 s
/-- LD (HL),d8 (R154). -/
def exec_ld_mhl_d8 (n : Byte) (s : State) : Out := opStoreImm n 12 s
/-- LD A,(HL-) (R168). -/
def exec_ld_a_mhld (s : State) : Out := opLoadStep 0xFFFF#16 8 s
/-- LD A,d8 (R151). -/
def exec_ld_a_d8 (n : Byte) (s : State) : Out := opLdImm .a n 8 s
/-- LD B,B (R150). -/
def exec_ld_b_b (s : State) : Out := opLd .b .b 4 s
/-- LD B,C (R150). -/
def exec_ld_b_c (s : State) : Out := opLd .b .c 4 s
/-- LD B,D (R150). -/
def exec_ld_b_d (s : State) : Out := opLd .b .d 4 s
/-- LD B,E (R150). -/
def exec_ld_b_e (s : State) : Out := opLd .b .e 4 s
/-- LD B,H (R150). -/
def exec_ld_b_h (s : State) : Out := opLd .b .h 4 s
/-- LD B,L (R150). -/
def exec_ld_b_l (s : State) : Out := opLd .b .l 4 s
/-- LD B,(HL) (R152). -/
def exec_ld_b_mhl (s : State) : Out := opLoad .b .hl 8 s
/-- LD B,A (R150). -/
def exec_ld_b_a (s : State) : Out := opLd .b .a 4 s
/-- LD C,B (R150). -/
def exec_ld_c_b (s : State) : Out := opLd .c .b 4 s
/-- LD C,C (R150). -/
def exec_ld_c_c (s : State) : Out := opLd .c .c 4 s
/-- LD C,D (R150). -/
def exec_ld_c_d (s : State) : Out := opLd .c .d 4 s
/-- LD C,E (R150). -/
def exec_ld_c_e (s : State) : Out := opLd .c .e 4 s
/-- LD C,H (R150). -/
def exec_ld_c_h (s : State) : Out := opLd .c .h 4 s
/-- LD C,L (R150). -/
def exec_ld_c_l (s : State) : Out := opLd .c .l 4 s
/-- LD C,(HL) (R152). -/
def exec_ld_c_mhl (s : State) : Out := opLoad .c .hl 8 s
/-- LD C,A (R150). -/
def exec_ld_c_a (s : State) : Out := opLd .c .a 4 s
/-- LD D,B (R150). -/
def exec_ld_d_b (s : State) : Out := opLd .d .b 4 s
/-- LD D,C (R150). -/
def exec_ld_d_c (s : State) : Out := opLd .d .c 4 s
/-- LD D,D (R150). -/
def exec_ld_d_d (s : State) : Out := opLd .d .d 4 s
/-- LD D,E (R150). -/
def exec_ld_d_e (s : State) : Out := opLd .d .e 4 s
/-- LD D,H (R150). -/
def exec_ld_d_h (s : State) : Out := opLd .d .h 4 s
/-- LD D,L (R150). -/
def exec_ld_d_l (s : State) : Out := opLd .d .l 4 s
/-- LD D,(HL) (R152). -/
def exec_ld_d_mhl (s : State) : Out := opLoad .d .hl 8 s
/-- LD D,A (R150). -/
def exec_ld_d_a (s : State) : Out := opLd .d .a 4 s
/-- LD E,B (R150). -/
def exec_ld_e_b (s : State) : Out := opLd .e .b 4 s
/-- LD E,C (R150). -/
def exec_ld_e_c (s : State) : Out := opLd .e .c 4 s
/-- LD E,D (R150). -/
def exec_ld_e_d (s : State) : Out := opLd .e .d 4 s
/-- LD E,E (R150). -/
def exec_ld_e_e (s : State) : Out := opLd .e .e 4 s
/-- LD E,H (R150). -/
def exec_ld_e_h (s : State) : Out := opLd .e .h 4 s
/-- LD E,L (R150). -/
def exec_ld_e_l (s : State) : Out := opLd .e .l 4 s
/-- LD E,(HL) (R152). -/
def exec_ld_e_mhl (s : State) : Out := opLoad .e .hl 8 s
/-- LD E,A (R150). -/
def exec_ld_e_a (s : State) : Out := opLd .e .a 4 s
/-- LD H,B (R150). -/
def exec_ld_h_b (s : State) : Out := opLd .h .b 4 s
/-- LD H,C (R150). -/
def exec_ld_h_c (s : State) : Out := opLd .h .c 4 s
/-- LD H,D (R150). -/
def exec_ld_h_d (s : State) : Out := opLd .h .d 4 s
/-- LD H,E (R150). -/
def exec_ld_h_e (s : State) : Out := opLd .h .e 4 s
/-- LD H,H (R150). -/
def exec_ld_h_h (s : State) : Out := opLd .h .h 4 s
/-- LD H,L (R150). -/
def exec_ld_h_l (s : State) : Out := opLd .h .l 4 s
/-- LD H,(HL) (R152). -/
def exec_ld_h_mhl (s : State) : Out := opLoad .h .hl 8 s
/-- LD H,A (R150). -/
def exec_ld_h_a (s : State) : Out := opLd .h .a 4 s
/-- LD L,B (R150). -/
def exec_ld_l_b (s : State) : Out := opLd .l .b 4 s
/-- LD L,C (R150). -/
def exec_ld_l_c (s : State) : Out := opLd .l .c 4 s
/-- LD L,D (R150). -/
def exec_ld_l_d (s : State) : Out := opLd .l .d 4 s
/-- LD L,E (R150). -/
def exec_ld_l_e (s : State) : Out := opLd .l .e 4 s
/-- LD L,H (R150). -/
def exec_ld_l_h (s : State) : Out := opLd .l .h 4 s
/-- LD L,L (R150). -/
def exec_ld_l_l (s : State) : Out := opLd .l .l 4 s
/-- LD L,(HL) (R152). -/
def exec_ld_l_mhl (s : State) : Out := opLoad .l .hl 8 s
/-- LD L,A (R150). -/
def exec_ld_l_a (s : State) : Out := opLd .l .a 4 s
/-- LD (HL),B (R153). -/
def exec_ld_mhl_b (s : State) : Out := opStore .hl .b 8 s
/-- LD (HL),C (R153). -/
def exec_ld_mhl_c (s : State) : Out := opStore .hl .c 8 s
/-- LD (HL),D (R153). -/
def exec_ld_mhl_d (s : State) : Out := opStore .hl .d 8 s
/-- LD (HL),E (R153). -/
def exec_ld_mhl_e (s : State) : Out := opStore .hl .e 8 s
/-- LD (HL),H (R153). -/
def exec_ld_mhl_h (s : State) : Out := opStore .hl .h 8 s
/-- LD (HL),L (R153). -/
def exec_ld_mhl_l (s : State) : Out := opStore .hl .l 8 s
/-- LD (HL),A (R153). -/
def exec_ld_mhl_a (s : State) : Out := opStore .hl .a 8 s
/-- LD A,B (R150). -/
def exec_ld_a_b (s : State) : Out := opLd .a .b 4 s
/-- LD A,C (R150). -/
def exec_ld_a_c (s : State) : Out := opLd .a .c 4 s
/-- LD A,D (R150). -/
def exec_ld_a_d (s : State) : Out := opLd .a .d 4 s
/-- LD A,E (R150). -/
def exec_ld_a_e (s : State) : Out := opLd .a .e 4 s
/-- LD A,H (R150). -/
def exec_ld_a_h (s : State) : Out := opLd .a .h 4 s
/-- LD A,L (R150). -/
def exec_ld_a_l (s : State) : Out := opLd .a .l 4 s
/-- LD A,(HL) (R152). -/
def exec_ld_a_mhl (s : State) : Out := opLoad .a .hl 8 s
/-- LD A,A (R150). -/
def exec_ld_a_a (s : State) : Out := opLd .a .a 4 s
/-- POP BC (R172). -/
def exec_pop_bc (s : State) : Out := opPop .bc 12 s
/-- PUSH BC (R173). -/
def exec_push_bc (s : State) : Out := opPush .bc 16 s
/-- POP DE (R172). -/
def exec_pop_de (s : State) : Out := opPop .de 12 s
/-- PUSH DE (R173). -/
def exec_push_de (s : State) : Out := opPush .de 16 s
/-- LDH (a8),A (R162). -/
def exec_ldh_ma8_a (n : Byte) (s : State) : Out := opStore (.high n) .a 12 s
/-- POP HL (R172). -/
def exec_pop_hl (s : State) : Out := opPop .hl 12 s
/-- LD (C),A (R164). -/
def exec_ld_mc_a (s : State) : Out := opStore .highC .a 8 s
/-- PUSH HL (R173). -/
def exec_push_hl (s : State) : Out := opPush .hl 16 s
/-- LD (a16),A (R160). -/
def exec_ld_ma16_a (nn : Word) (s : State) : Out := opStore (.abs nn) .a 16 s
/-- LDH A,(a8) (R161). -/
def exec_ldh_a_ma8 (n : Byte) (s : State) : Out := opLoad .a (.high n) 12 s
/-- POP AF (R172). -/
def exec_pop_af (s : State) : Out := opPop .af 12 s
/-- LD A,(C) (R163). -/
def exec_ld_a_mc (s : State) : Out := opLoad .a .highC 8 s
/-- PUSH AF (R173). -/
def exec_push_af (s : State) : Out := opPush .af 16 s
/-- LD SP,HL (R171). -/
def exec_ld_sp_hl (s : State) : Out := opLdSpHl 8 s
/-- LD A,(a16) (R159). -/
def exec_ld_a_ma16 (nn : Word) (s : State) : Out := opLoad .a (.abs nn) 16 s

end Sys2Proof.Machine
end

