-- ==== Sys2Proof/Machine/Fetch.lean ====
section
/-! DEFINITION. Fetching an instruction's bytes (30_encoding.md R110, R121), and placing bytes where a
fetch finds them. -/

namespace Sys2Proof.Machine

/-- The bytes of the instruction at PC and the state after fetching them one by one: the first byte alone
fixes how many there are (R110). -/
def State.fetchInstr (s : State) : List Byte × State :=
  let op := s.fetch8
  match instrLength op.1 with
  | 2 =>
    let n := op.2.fetch8
    ([op.1, n.1], n.2)
  | 3 =>
    let lo := op.2.fetch8
    let hi := lo.2.fetch8
    ([op.1, lo.1, hi.1], hi.2)
  | _ => ([op.1], op.2)

/-- Put a byte into the cell that backs an I/O address, with no write action. DIV, TIMA and unimplemented
addresses have no cell. -/
def State.pokeIo (s : State) (a : Word) (v : Byte) : State :=
  match ioReg (lowOf a) with
  | .tma => { s with bus := { s.bus with tma := v } }
  | .tac => { s with bus := { s.bus with tac := v } }
  | .ie => { s with bus := { s.bus with ie := v } }
  | .sound => { s with snd := { s.snd with regs := Memory.write s.snd.regs (lowOf a) v } }
  | .highRam => s.writeRam a v
  | .counter => s
  | .unimplemented => s

/-- Put a byte into the cell that backs an address, ROM cells included. It is no machine operation: it
stands for the load of a program from outside (log 15). -/
def State.poke (s : State) (a : Word) (v : Byte) : State :=
  match regionOf a with
  | .romFixed => { s with bus := { s.bus with rom := Memory.write s.bus.rom a.toNat v } }
  | .romBanked =>
    { s with bus := { s.bus with rom := Memory.write s.bus.rom (bankedOffset s.bus.romBank a) v } }
  | .extRam => s.writeRam a v
  | .workRam => s.writeRam a v
  | .ioPage => s.pokeIo a v
  | .unmapped => s

/-- Put bytes at successive addresses. -/
def State.pokeAll (s : State) : Word → List Byte → State
  | _, [] => s
  | a, b :: bs => State.pokeAll (s.poke a b) (a + 1#16) bs

/-- A CPU that fetches next: neither halted nor stopped (60_exceptions.md R350). -/
def State.wake (s : State) : State :=
  { s with cpu := { s.cpu with halted := false, stopReason := none } }

end Sys2Proof.Machine
end

