-- ==== Sys2Proof/Machine/Iteration.lean ====
section
/-! DEFINITION. The CPU step (60_exceptions.md R350) and what the platform step does around it: the
sound advance, the session cycles and the two countdowns (60_exceptions.md R370, R372, R380). -/

namespace Sys2Proof.Machine

/-- Fetch, decode and execute (R350). The error branch is the fatal outcome of an unknown sub-opcode,
which no byte reaches (30_encoding.md R129). -/
def State.fetchExecute (s : State) : Out :=
  let f := s.fetchInstr
  match decode f.1 with
  | .ok r => exec r.1 f.2
  | .error _ => .next (f.2.raiseIllegal (f.1.headD 0#8) s.cpu.pc)

/-- `step()` of a CPU that is not stopped (R350): a halted one fetches nothing (R352). -/
def State.cpuStep (s : State) : Out :=
  if s.cpu.halted then
    if s.cpu.ime then s.done Config.haltStepCycles else .next (s.raiseFatal .haltLockup)
  else s.fetchExecute

/-- `sound_advance(c)` and the session cycles (R380, 61_sound.md R445). -/
def State.runFor (s : State) (c : Nat) : State :=
  let r := Sound.advance s.host c s.snd s.host.events
  { s with snd := r.1, host := { s.host with events := r.2 }, sessionCycles := s.sessionCycles + c }

/-- The delivery condition of a source: `ime` and its bit of IE (R364). -/
def State.delivers (s : State) (bit : Nat) : Bool := s.cpu.ime && s.bus.ie.getLsbD bit

/-- Deliver a fired interrupt if its condition holds, else discard it (R361, R364); the number of
deliveries made. -/
def State.fire (s : State) (bit : Nat) (vector : Word) : State × Nat :=
  if s.delivers bit then (s.deliverInterrupt vector, 1) else (s, 0)

/-- The vblank check after a step of `c` cycles (R370). -/
def State.vblankCheck (s : State) (c : Nat) : State × Nat :=
  let left := s.timers.vblankCtr - (c : Int)
  if left ≤ 0 then
    State.fire { s with timers := { s.timers with vblankCtr := left + (Config.vblankPeriod : Int) } } 0
      Config.vblankVector
  else ({ s with timers := { s.timers with vblankCtr := left } }, 0)

/-- The timer check after a step of `c` cycles (R372). -/
def State.timerCheck (s : State) (c : Nat) : State × Nat :=
  if 0 < s.timers.timerPeriod then
    let left := s.timers.timerCtr - (c : Int)
    if left ≤ 0 then
      State.fire { s with timers := { s.timers with timerCtr := left + (s.timers.timerPeriod : Int) } } 2
        Config.timerVector
    else ({ s with timers := { s.timers with timerCtr := left } }, 0)
  else (s, 0)

/-- The dispatch cycles of `n` deliveries (R380); `INTR_DISPATCH_CYCLES` is 0. -/
def State.chargeDispatch (s : State) : Nat → State
  | 0 => s
  | n + 1 =>
    State.chargeDispatch (if 0 < Config.intrDispatchCycles then s.runFor Config.intrDispatchCycles else s) n

/-- What one iteration of the platform step does after a CPU step of `c` cycles (R380): vblank first,
then the timer (R365). -/
def State.afterCpuStep (s : State) (c : Nat) : State :=
  let v := (s.runFor c).vblankCheck c
  let t := v.1.timerCheck c
  t.1.chargeDispatch (v.2 + t.2)

/-- The rest of an iteration: none after a fatal outcome (R365, R380). -/
def State.finishIteration (s : State) : State :=
  if s.cpu.stopReason.isSome then s else s.afterCpuStep s.cycles

/-- One iteration of the platform step (R380) of a CPU that is not stopped. -/
def State.iterate (s : State) : Out :=
  match s.cpuStep with
  | .next t => .next t.finishIteration
  | .fault r => .fault r
  | .refused r => .refused r

end Sys2Proof.Machine
end

