-- ==== Sys2Proof/Machine/Step.lean ====
section
/-! DEFINITION. The machine's step: one iteration of the platform step's loop (60_exceptions.md R380, log 2). -/

namespace Sys2Proof.Machine

/-- One iteration: while `stopped = 1` the sentinel, with no state change (60_exceptions.md R351); else
`State.iterate`. -/
def step (s : State) : Host.Outcome State Fault Refusal :=
  match s.cpu.stopReason with
  | some reason => .fault (.stopped reason)
  | none => s.iterate

/-- The state whose next step fetches and runs the instruction of bits `w`: its bytes put where PC points,
in a CPU that fetches (log 15). -/
def State.withFetchWord (s : State) (nbits w : Nat) : State :=
  s.wake.pokeAll s.cpu.pc (tableBytes nbits w)

end Sys2Proof.Machine
end

