-- ==== Sys2Proof/Machine/Platform.lean ====
section
/-! DEFINITION. The host's operations (60_exceptions.md R386): each runs between two platform steps. -/

namespace Sys2Proof.Machine

/-- The instance's own inputs `DAA_MODE` and `IMPULSE_TABLE` (00_scope.md R9), given before a session. -/
def configure (mode : DaaMode) (table : List (List Int)) (s : State) : State :=
  { s with host := { s.host with daaMode := mode, impulseTable := table } }

/-- What `init` needs of a ROM image and its size (70_reset_and_hazards.md R520). -/
def romSizeOk (rom : List Byte) (size : Nat) : Bool :=
  decide (0 < size) && decide (size % Config.bankSize = 0) && decide (rom.length = size)

/-- The state `init` leaves (R520, R521): everything at its reset value but the host's parameters, its
callbacks and what was already sent to it; the draw counter is kept so that draws stay fresh. -/
def State.initialised (s : State) (rom : List Byte) (size : Nat) : State :=
  { State.reset with
    bus := Bus.reset (Memory.ofBytes 0 rom) (size / Config.bankSize)
    snd := Sound.reset s.host.outFrames
    host := { s.host with snapshot := Snapshot.reset, bankClampWarned := false }
    draws := s.draws }

/-- `init(rom_bytes, rom_size)` (R520); a size the `require` fails for has no meaning. -/
def hostInit (rom : List Byte) (size : Nat) (s : State) : Out :=
  if romSizeOk rom size then .next (s.initialised rom size) else .refused .badRomSize

/-- `start_subsong` (R522). `initEntry` is not read by the core; `stubEntry` is the parameter `STUB_ENTRY`. -/
def startSubsong (stubEntry load _initEntry stack : Word) (index : Byte) (s : State) : State :=
  (((s.setPc stubEntry).setSp stack).setHl (load - 0x70#16)).setReg8 .a index

/-- `set_sample_rate(rate)` (61_sound.md R485). -/
def setSampleRate (rate : Nat) (s : State) : State :=
  { s with host := { s.host with sampleRate := some rate } }

/-- `set_output_buffer` with a buffer of `frames` stereo frames (61_sound.md R491). -/
def setOutputBuffer (frames : Nat) (s : State) : State :=
  { s with
    host := { s.host with outFrames := some frames }
    snd := { s.snd with
      impL := impulseZeros (some frames), impR := impulseZeros (some frames)
      out := pcmZeros (some frames), pos := 0 } }

/-- `set_sound_callback`: whether a flush callback is registered (61_sound.md R491). -/
def setSoundCallback (registered : Bool) (s : State) : State :=
  { s with host := { s.host with callback := registered } }

/-- Registration of the `on_io_write` observer (60_exceptions.md R384). -/
def setIoObserver (registered : Bool) (s : State) : State :=
  { s with host := { s.host with observer := registered } }

/-- Set `mute[ch]`, ch = 1..4 (61_sound.md R421). -/
def setMute (m1 m2 m3 m4 : Bool) (s : State) : State :=
  { s with host := { s.host with mute1 := m1, mute2 := m2, mute3 := m3, mute4 := m4 } }

/-- Set `master_fade` (61_sound.md R421). -/
def setMasterFade (fade : Int) (s : State) : State :=
  { s with host := { s.host with masterFade := fade } }

/-- One channel of the snapshot: audibly active is running, volume above 0 and not muted (60_exceptions.md R385). -/
def viewOf (mute : Bool) (c : Voice) : ChannelView :=
  ⟨mute, c.volume, c.divTc, c.running && decide (0 < c.volume) && !mute⟩

/-- The snapshot of the channels as they stand (R385). -/
def snapshotOf (s : State) : Snapshot :=
  ⟨viewOf s.host.mute1 s.snd.ch1.voice, viewOf s.host.mute2 s.snd.ch2.voice,
   viewOf s.host.mute3 s.snd.ch3.voice, viewOf s.host.mute4 s.snd.ch4.voice⟩

/-- Refresh the introspection snapshot (R385). -/
def refreshSnapshot (s : State) : State :=
  { s with host := { s.host with snapshot := snapshotOf s } }

/-- Introspection: what the host gets back (R386). -/
def introspect (s : State) : Snapshot := s.host.snapshot

/-- A platform step's state and return value: the cycles done, or -1 (60_exceptions.md R382). -/
structure PlatformResult where
  state : State
  result : Int
  deriving DecidableEq, Repr

/-- The outcome type of the platform step. -/
abbrev PlatformOut := Host.Outcome PlatformResult Fault Refusal

/-- The end of the loop: refresh the snapshot and return the cycles done (R380). -/
def finishPlatform (start : Nat) (s : State) : PlatformOut :=
  .next ⟨refreshSnapshot s, ((s.sessionCycles - start : Nat) : Int)⟩

/-- The loop of the platform step (R380). `done` is `session_cycles` less its value at the start; every
iteration that is not fatal charges a cycle, so fuel equal to the target suffices. -/
def platformLoop (start target : Nat) : Nat → State → PlatformOut
  | 0, s => finishPlatform start s
  | fuel + 1, s =>
    if target ≤ s.sessionCycles - start then finishPlatform start s
    else
      match step s with
      | .next t => if t.cpu.stopReason.isSome then .next ⟨t, -1⟩ else platformLoop start target fuel t
      | .fault _ => .next ⟨s, -1⟩
      | .refused r => .refused r

/-- The target of a platform step in cycles (R381). -/
def targetCycles (ms : Nat) : Nat := ms * Config.clk / 1000

/-- `platform_step(ms)` (R380); without a configured resampler it has no meaning
(70_reset_and_hazards.md R525, 93_implementation_defined.md I11). -/
def platformStep (ms : Nat) (s : State) : PlatformOut :=
  match s.host.resampler with
  | some _ => platformLoop s.sessionCycles (targetCycles ms) (targetCycles ms) s
  | none => .refused .resamplerNotConfigured

end Sys2Proof.Machine
end

