-- ==== Sys2Proof/Safety.lean ====
section
/-! DEFINITION. The terms the claims are stated in: what a step leaves unchanged, what a state must look
like, and what a safe run is. -/

namespace Sys2Proof.Machine

/-! ### Addresses by range -/

/-- DIV and TIMA, whose reads are free draws (20_memory.md R88). -/
abbrev IsCounter (a : Word) : Prop := a = 0xFF04#16 ∨ a = 0xFF05#16

/-- TMA and TAC (20_memory.md R90). -/
abbrev IsTimerReg (a : Word) : Prop := a = 0xFF06#16 ∨ a = 0xFF07#16

/-- The sound registers and wave RAM (20_memory.md R86). -/
abbrev IsSoundReg (a : Word) : Prop := 0xFF10 ≤ a.toNat ∧ a.toNat ≤ 0xFF3F

/-- External RAM, work RAM and high RAM (10_state.md R46). -/
abbrev IsRam (a : Word) : Prop := (0xA000 ≤ a.toNat ∧ a.toNat ≤ 0xDFFF) ∨ (0xFF80 ≤ a.toNat ∧ a.toNat ≤ 0xFFFE)

/-- Addresses whose reads return the last byte written: RAM, TMA, TAC, the sound registers and IE. -/
abbrev IsStored (a : Word) : Prop := IsRam a ∨ IsTimerReg a ∨ IsSoundReg a ∨ a = 0xFFFF#16

/-- The bank-select range (20_memory.md R80). -/
abbrev IsBankSelect (a : Word) : Prop := 0x2000 ≤ a.toNat ∧ a.toNat ≤ 0x3FFF

/-- The switchable window (20_memory.md R79). -/
abbrev IsBankWindow (a : Word) : Prop := 0x4000 ≤ a.toNat ∧ a.toNat ≤ 0x7FFF

/-- Unimplemented I/O addresses (20_memory.md R88). -/
abbrev IsUnimplemented (a : Word) : Prop :=
  0xFF00 ≤ a.toNat ∧ ¬ IsCounter a ∧ ¬ IsTimerReg a ∧ ¬ IsSoundReg a ∧ a.toNat < 0xFF80

/-! ### Frames -/

/-- Every 8-bit register outside `rs` holds what it held. -/
def RegsSameBut (rs : List Reg8) (s t : State) : Prop := ∀ r, r ∉ rs → t.reg8 r = s.reg8 r

/-- `ime`, `halted` and `stop_reason` are as they were. -/
def ControlSame (s t : State) : Prop :=
  t.cpu.ime = s.cpu.ime ∧ t.cpu.halted = s.cpu.halted ∧ t.cpu.stopReason = s.cpu.stopReason

/-- Everything outside the CPU and the cycle count is as it was. -/
def OutsideSame (s t : State) : Prop :=
  t.bus = s.bus ∧ t.timers = s.timers ∧ t.snd = s.snd ∧ t.host = s.host ∧
  t.sessionCycles = s.sessionCycles ∧ t.draws = s.draws

/-- Every address but the free draws reads as before. -/
def MemorySame (s t : State) : Prop := ∀ b, ¬ IsCounter b → t.peek b = s.peek b

/-- The four flags of `t`, with bits 3-0 of F zero (10_state.md R34, R35). -/
abbrev FlagsAre (z n h c : Bool) (t : State) : Prop :=
  t.flagZ = z ∧ t.flagN = n ∧ t.flagH = h ∧ t.flagC = c ∧ t.cpu.f &&& 0x0F#8 = 0#8

/-- `t` is `s` with the 8-bit registers in `rs` written, the cycles charged and at most SP, PC and F
changed; nothing is stored or read. -/
def RegsOnly (rs : List Reg8) (cycles : Nat) (s t : State) : Prop :=
  RegsSameBut rs s t ∧ ControlSame s t ∧ OutsideSame s t ∧ MemorySame s t ∧ t.cycles = cycles

/-- `t` is `s` with the 8-bit registers in `rs` written and the byte at `a` read: at most SP, PC and F
changed beside them, and outside the CPU only what the read leaves behind (20_memory.md R88, R93). -/
def ReadsOnly (a : Word) (rs : List Reg8) (cycles : Nat) (s t : State) : Prop :=
  RegsSameBut rs s t ∧ ControlSame s t ∧ OutsideSame (s.afterRead a) t ∧ MemorySame s t ∧
  t.bus = s.bus ∧ t.timers = s.timers ∧ t.snd = s.snd ∧ t.cycles = cycles

/-- Of the memory and the memory-mapped state, only what stores at the addresses `l` change: every other
address reads as before but the free draws and, after a bank select, the switchable window. -/
def StoresOnlyAt (l : List Word) (s t : State) : Prop :=
  (∀ b, b ∉ l → ¬ IsCounter b → ((∃ a ∈ l, IsBankSelect a) → ¬ IsBankWindow b) → t.peek b = s.peek b) ∧
  t.bus.rom = s.bus.rom ∧ t.bus.bankCount = s.bus.bankCount ∧
  ((∀ a ∈ l, ¬ IsBankSelect a) → t.bus.romBank = s.bus.romBank) ∧
  ((∀ a ∈ l, ¬ IsTimerReg a) → t.timers = s.timers) ∧
  ((∀ a ∈ l, ¬ IsSoundReg a) → t.snd = s.snd) ∧
  t.sessionCycles = s.sessionCycles

/-- `t` is `s` with `v` stored at `a` and the 8-bit registers in `rs` written: the store is the bus
operation, the byte reads back where the address stores bytes, and nothing else changes but F, PC and SP. -/
def StoresByte (a : Word) (v : Byte) (rs : List Reg8) (cycles : Nat) (s t : State) : Prop :=
  RegsSameBut rs s t ∧ ControlSame s t ∧ OutsideSame (s.memWrite a v) t ∧ StoresOnlyAt [a] s t ∧
  (IsStored a → t.peek a = v) ∧ t.draws = s.draws ∧ t.cycles = cycles

/-- `t` is `s` after one read and then one write of the byte at `a` (00_scope.md R12), with the 8-bit
registers in `rs` written: nothing else changes but F. -/
def RewritesByte (a : Word) (v : Byte) (cycles : Nat) (s t : State) : Prop :=
  RegsSameBut [] s t ∧ ControlSame s t ∧ OutsideSame ((s.afterRead a).memWrite a v) t ∧
  StoresOnlyAt [a] s t ∧ (IsStored a → t.peek a = v) ∧ t.cycles = cycles

/-- The two addresses a push writes: the high byte's, then the low byte's (20_memory.md R76). -/
def pushAddresses (s : State) : List Word := [s.cpu.sp - 1#16, s.cpu.sp - 2#16]

/-- `t` is `s` with `v` pushed: the high byte at SP-1, then the low byte at SP-2, SP lower by 2, and
nothing else changed but PC and the control flags. -/
def PushesWord (v : Word) (s t : State) : Prop :=
  RegsSameBut [] s t ∧ t.cpu.f = s.cpu.f ∧ t.cpu.sp = s.cpu.sp - 2#16 ∧
  OutsideSame ((s.memWrite (s.cpu.sp - 1#16) (hiByte v)).memWrite (s.cpu.sp - 2#16) (loByte v)) t ∧
  StoresOnlyAt (pushAddresses s) s t ∧
  (IsStored (s.cpu.sp - 1#16) → t.peek (s.cpu.sp - 1#16) = hiByte v) ∧
  (IsStored (s.cpu.sp - 2#16) → t.peek (s.cpu.sp - 2#16) = loByte v) ∧ t.draws = s.draws

/-- The word a pop at SP reads: the low byte first, each byte as the bus gives it at that moment. -/
def poppedWord (s : State) : Word :=
  wordOf (s.peek s.cpu.sp) ((s.afterRead s.cpu.sp).peek (s.cpu.sp + 1#16))

/-- `t` is `s` with two bytes popped: SP higher by 2, nothing stored. The registers in `rs` are written. -/
def PopsWord (rs : List Reg8) (s t : State) : Prop :=
  RegsSameBut rs s t ∧ t.cpu.sp = s.cpu.sp + 2#16 ∧
  OutsideSame ((s.afterRead s.cpu.sp).afterRead (s.cpu.sp + 1#16)) t ∧ MemorySame s t ∧
  t.bus = s.bus ∧ t.timers = s.timers ∧ t.snd = s.snd

/-- Two states that differ at most in PC, `stop_reason`, the events sent to the host, the draw counter
and the cycle count: what a fatal step leaves alone (60_exceptions.md R355). -/
def FatalSame (s t : State) : Prop :=
  RegsSameBut [] s t ∧ t.cpu.f = s.cpu.f ∧ t.cpu.sp = s.cpu.sp ∧ t.cpu.ime = s.cpu.ime ∧
  t.cpu.halted = s.cpu.halted ∧ t.bus = s.bus ∧ t.timers = s.timers ∧ t.snd = s.snd ∧
  t.sessionCycles = s.sessionCycles ∧ t.host = { s.host with events := t.host.events } ∧ MemorySame s t

/-! ### Results in the spec's terms -/

/-- The 8-bit registers a pair is made of (10_state.md R31). -/
def pairRegs : Pair → List Reg8
  | .bc => [.b, .c]
  | .de => [.d, .e]
  | .hl => [.h, .l]
  | .sp => []

/-- The flags an 8-bit arithmetic operation gives by comparing before and after (41_alu8.md R200),
`sub` for the subtraction-style ones. -/
abbrev comparedFlags (sub : Bool) (old new : Byte) (c : Bool) (t : State) : Prop :=
  FlagsAre (decide (new = 0#8)) sub
    (if sub then decide (old.toNat % 16 < new.toNat % 16) else decide (new.toNat % 16 < old.toNat % 16)) c t

/-- The borrow or carry of the same comparison (R200). -/
def comparedCarry (sub : Bool) (old new : Byte) : Bool :=
  if sub then decide (old.toNat < new.toNat) else decide (new.toNat < old.toNat)

/-- What an ALU operation on the operand `x` leaves in A and F (R202-R209), from the state before it. -/
def AluResult (op : AluOp) (x : Byte) (s t : State) : Prop :=
  let a := s.cpu.a
  let c := if s.flagC then 1#8 else 0#8
  match op with
  | .add => t.cpu.a = a + x ∧ comparedFlags false a (a + x) (comparedCarry false a (a + x)) t
  | .adc => t.cpu.a = a + x + c ∧ comparedFlags false a (a + x + c) (comparedCarry false a (a + x + c)) t
  | .sub => t.cpu.a = a - x ∧ comparedFlags true a (a - x) (comparedCarry true a (a - x)) t
  | .sbc => t.cpu.a = a - x - c ∧ comparedFlags true a (a - x - c) (comparedCarry true a (a - x - c)) t
  | .and => t.cpu.a = a &&& x ∧ FlagsAre (decide (a &&& x = 0#8)) false true false t
  | .xor => t.cpu.a = a ^^^ x ∧ FlagsAre (decide (a ^^^ x = 0#8)) false false false t
  | .or => t.cpu.a = a ||| x ∧ FlagsAre (decide (a ||| x = 0#8)) false false false t
  | .cp => t.cpu.a = a ∧ comparedFlags true a (a - x) (comparedCarry true a (a - x)) t

/-- The decimal adjustment of 41_alu8.md R223 on numbers: the value and the carry out. -/
def decimalAdjust (a : Nat) (n h c : Bool) : Nat × Bool :=
  if n then ((a + 256 - (if c then 0x60 else 0) - (if h then 0x06 else 0)) % 256, c)
  else
    ((a + (if c ∨ 0x99 < a then 0x60 else 0) + (if h ∨ 9 < a % 16 then 0x06 else 0)) % 256,
     c || decide (0x99 < a))

/-- The value and the carry of a rotate or shift, on numbers (43_rotate_shift_bit.md R270-R282). -/
def rotatedValue (op : RotOp) (v c : Nat) : Nat × Bool :=
  match op with
  | .rlc => ((2 * v + v / 128) % 256, decide (v / 128 = 1))
  | .rrc => (v / 2 + 128 * (v % 2), decide (v % 2 = 1))
  | .rl => ((2 * v + c) % 256, decide (v / 128 = 1))
  | .rr => (v / 2 + 128 * c, decide (v % 2 = 1))
  | .sla => (2 * v % 256, decide (v / 128 = 1))
  | .sra => (v / 2 + 128 * (v / 128), decide (v % 2 = 1))
  | .swap => (16 * (v % 16) + v / 16, false)
  | .srl => (v / 2, decide (v % 2 = 1))

/-- The rotate of a byte with the carry flag of a state. -/
def rotatedByte (op : RotOp) (v : Byte) (s : State) : Byte × Bool :=
  let r := rotatedValue op v.toNat (if s.flagC then 1 else 0)
  (BitVec.ofNat 8 r.1, r.2)

/-- `v` with bit `b` made `x`. -/
abbrev withBit (b : Fin 8) (x : Bool) (v w : Byte) : Prop :=
  ∀ k, k < 8 → w.getLsbD k = if k = b.val then x else v.getLsbD k

/-- `cond(cc)` by the flag it tests (30_encoding.md R118). -/
def condHolds (cc : Cond) (s : State) : Bool :=
  match cc with
  | .nz => s.cpu.f.getLsbD 7 == false
  | .z => s.cpu.f.getLsbD 7 == true
  | .nc => s.cpu.f.getLsbD 4 == false
  | .c => s.cpu.f.getLsbD 4 == true

/-- The state after `n` bytes were fetched one by one from PC up. -/
def afterFetch : Nat → State → State
  | 0, s => s
  | n + 1, s => afterFetch n ((s.afterRead s.cpu.pc).setPc (s.cpu.pc + 1#16))

/-- The next `n` bytes a fetch reads, each as the bus gives it at its moment. -/
def fetchedBytes : Nat → State → List Byte
  | 0, _ => []
  | n + 1, s => s.peek s.cpu.pc :: fetchedBytes n ((s.afterRead s.cpu.pc).setPc (s.cpu.pc + 1#16))

/-- 10_state.md R52, 70_reset_and_hazards.md R524, 61_sound.md R425: the values the spec gives for the state after
`init`, of the CPU, the bus outside the ROM image, the countdowns and the sound unit. -/
def IsInitState (s : State) : Prop :=
  (∀ r, s.reg8 r = 0#8) ∧ s.cpu.f = 0#8 ∧ s.cpu.sp = 0#16 ∧ s.cpu.pc = 0#16 ∧ s.cpu.ime = false ∧
  s.cpu.halted = false ∧ s.cpu.stopReason = none ∧
  s.bus.ie = 0#8 ∧ s.bus.tma = 0#8 ∧ s.bus.tac = 0#8 ∧ s.bus.romBank = min 1 (s.bus.bankCount - 1) ∧
  (∀ a, IsRam a → s.peek a = 0#8) ∧ (∀ a, IsSoundReg a → s.peek a = 0#8) ∧
  s.timers.vblankCtr = 70224 ∧ s.timers.timerCtr = 0 ∧ s.timers.timerPeriod = 0 ∧ s.sessionCycles = 0 ∧
  s.snd.ch1 = Pulse.reset ∧ s.snd.ch2 = Pulse.reset ∧ s.snd.ch3 = Wave.reset ∧ s.snd.ch4 = Noise.reset ∧
  (∀ p : Pulse, p = Pulse.reset → p.voice.divTc = 2048 ∧ p.voice.divCtr = 8192 ∧ p.dutyTc = 1 ∧
    p.voice.running = false ∧ p.voice.volume = 0 ∧ p.voice.len = 0) ∧
  s.snd.ch3.voice.divTc = 2048 ∧ s.snd.ch3.voice.divCtr = 4096 ∧ s.snd.ch4.voice.divTc = 8 ∧
  s.snd.ch4.voice.divCtr = 8 ∧ s.snd.sweep = ⟨0, false, 0, 0⟩ ∧
  s.snd.masterVolume = 65536 ∧ s.snd.seqCtr = 16384 ∧ s.snd.lastL = 0 ∧ s.snd.lastR = 0 ∧ s.snd.pos = 0 ∧
  s.snd.accL = 0 ∧ s.snd.accR = 0 ∧ (∀ x ∈ s.snd.impL ++ s.snd.impR ++ s.snd.out, x = 0)

/-- 61_sound.md R433-R435, R443: what the frequency, envelope and trigger registers of the four channels write,
the trigger included; `n` is the byte. -/
def SharedRegisterWrites (s : Sound) (v : Byte) : Prop :=
  let n := v.toNat
  (∀ (p : Pulse), p.writeEnvelope v = { p with
    voice := { p.voice with volInit := n / 16 }
    env := { p.env with dir := v.getLsbD 3, period := n % 8 } }) ∧
  (∀ (p : Pulse), let q := p.writeFreqLow v
    q.freq.toNat = p.freq.toNat / 256 * 256 + n ∧
    q = { p with freq := q.freq, voice := { p.voice with divTc := 2048 - q.freq.toNat } }) ∧
  (∀ (p : Pulse), let q := p.writeControl v
    let divTc := 2048 - q.freq.toNat
    q.freq.toNat = n % 8 * 256 + p.freq.toNat % 256 ∧
    (n < 128 → q = { p with
      freq := q.freq, voice := { p.voice with divTc := divTc, lenEnable := v.getLsbD 6 } }) ∧
    (128 ≤ n → q = { p with
      freq := q.freq
      env := { p.env with ctr := p.env.period * 4 }
      voice := { p.voice with
        divTc := divTc, lenEnable := v.getLsbD 6, running := true, divCtr := 4 * divTc
        len := if p.voice.len = 0 then 64 else p.voice.len
        volume := p.voice.volInit } })) ∧
  s.writeAction 0x12 v = { s with ch1 := s.ch1.writeEnvelope v } ∧
  s.writeAction 0x13 v = { s with ch1 := s.ch1.writeFreqLow v } ∧
  s.writeAction 0x14 v = { s with
    ch1 := s.ch1.writeControl v
    sweep := if 128 ≤ n then { s.sweep with ctr := s.sweep.period * 2 } else s.sweep } ∧
  s.writeAction 0x17 v = { s with ch2 := s.ch2.writeEnvelope v } ∧
  s.writeAction 0x18 v = { s with ch2 := s.ch2.writeFreqLow v } ∧
  s.writeAction 0x19 v = { s with ch2 := s.ch2.writeControl v } ∧
  (let q := (s.writeAction 0x1D v).ch3
   q.freq.toNat = s.ch3.freq.toNat / 256 * 256 + n ∧
   s.writeAction 0x1D v = { s with ch3 := { s.ch3 with
     freq := q.freq, voice := { s.ch3.voice with divTc := 2048 - q.freq.toNat } } }) ∧
  (let q := (s.writeAction 0x1E v).ch3
   let divTc := 2048 - q.freq.toNat
   q.freq.toNat = n % 8 * 256 + s.ch3.freq.toNat % 256 ∧
   (n < 128 → s.writeAction 0x1E v = { s with ch3 := { s.ch3 with
     freq := q.freq, voice := { s.ch3.voice with divTc := divTc, lenEnable := v.getLsbD 6 } } }) ∧
   (128 ≤ n → s.writeAction 0x1E v = { s with ch3 := { s.ch3 with
     freq := q.freq, wavePos := 0
     voice := { s.ch3.voice with
       divTc := divTc, lenEnable := v.getLsbD 6, running := true, divCtr := 2 * divTc
       len := if s.ch3.voice.len = 0 then 256 else s.ch3.voice.len
       volume := s.ch3.voice.volInit } } })) ∧
  s.writeAction 0x21 v = { s with ch4 := { s.ch4 with
    voice := { s.ch4.voice with volInit := n / 16 }
    env := { s.ch4.env with dir := v.getLsbD 3, period := n % 8 } } } ∧
  (n < 128 → s.writeAction 0x23 v = { s with ch4 := { s.ch4 with
    voice := { s.ch4.voice with lenEnable := v.getLsbD 6 } } }) ∧
  (128 ≤ n → s.writeAction 0x23 v = { s with ch4 := { s.ch4 with
    lfsr := 0, env := { s.ch4.env with ctr := s.ch4.env.period * 4 }
    voice := { s.ch4.voice with
      lenEnable := v.getLsbD 6, running := true, divCtr := s.ch4.voice.divTc
      len := if s.ch4.voice.len = 0 then 64 else s.ch4.voice.len
      volume := s.ch4.voice.volInit } } })

/-- 61_sound.md R451: the length step of one channel. -/
def LengthRule (c c' : Voice) : Prop :=
  (c.lenEnable = true → c.len = 1 → c' = { c with len := 0, volume := 0, running := false }) ∧
  (c.lenEnable = true → 1 < c.len → c' = { c with len := c.len - 1 }) ∧
  ((c.lenEnable = false ∨ c.len = 0) → c' = c)

/-- 61_sound.md R452: the envelope step, on a channel's volume and its envelope counter. -/
def EnvelopeRule (e e' : Envelope) (volume volume' : Nat) : Prop :=
  (e.period = 0 → e' = e ∧ volume' = volume) ∧
  (0 < e.period → 1 < e.ctr → e' = { e with ctr := e.ctr - 1 } ∧ volume' = volume) ∧
  (0 < e.period → e.ctr ≤ 1 → e' = { e with ctr := e.period * 4 } ∧
    volume' = if e.dir then (if volume < 15 then volume + 1 else volume) else volume - 1)

/-- The register after `n` steps from 0. -/
def lfsrRun (narrow : Bool) : Nat → BitVec 15
  | 0 => 0#15
  | n + 1 => lfsrNext narrow (lfsrRun narrow n)

/-- The first `n` output bits from 0, the first the most significant. -/
def lfsrBits (narrow : Bool) : Nat → Nat
  | 0 => 0
  | n + 1 => 2 * lfsrBits narrow n + (noiseBit (lfsrRun narrow (n + 1))).toNat

/-! ### Invariants -/

/-- What holds of the CPU, the memories and the countdowns in every state. -/
structure CoreInv (s : State) : Prop where
  /-- 10_state.md R35. -/
  flagsLow : s.cpu.f &&& 0x0F#8 = 0#8
  romCanonical : Memory.wf s.bus.rom
  memCanonical : Memory.wf s.bus.mem
  regsCanonical : Memory.wf s.snd.regs
  /-- Only RAM addresses are listed (10_state.md R46). -/
  memRange : ∀ c ∈ s.bus.mem, (0xA000 ≤ c.1 ∧ c.1 ≤ 0xDFFF) ∨ (0xFF80 ≤ c.1 ∧ c.1 ≤ 0xFFFE)
  /-- Only sound registers are listed (10_state.md R47). -/
  regsRange : ∀ c ∈ s.snd.regs, 0x10 ≤ c.1 ∧ c.1 ≤ 0x3F
  /-- 20_memory.md R79, R80. -/
  bankInRange : s.bus.romBank < s.bus.bankCount
  /-- 60_exceptions.md R371: the period is the one TMA and TAC program. -/
  timerProgrammed : s.timers.timerPeriod = timerPeriodOf s.bus.tma s.bus.tac
  /-- 60_exceptions.md R370: the countdown is above zero after every step. -/
  vblankRange : 0 < s.timers.vblankCtr ∧ s.timers.vblankCtr ≤ Config.vblankPeriod

/-- The ranges of a channel's common fields, with its greatest volume and length (61_sound.md R420). -/
abbrev Voice.InRange (c : Voice) (maxVolume maxLen : Nat) : Prop :=
  c.volInit ≤ maxVolume ∧ c.volume ≤ maxVolume ∧ c.len ≤ maxLen ∧ 1 ≤ c.divTc ∧ 1 ≤ c.divCtr

/-- The ranges of a pulse channel (R420); `duty_tc` is the threshold of `duty` (R432). -/
abbrev Pulse.InRange (p : Pulse) : Prop :=
  p.voice.InRange 15 64 ∧ p.voice.divTc ≤ 2048 ∧ p.dutyTc = dutyThreshold p.duty ∧ p.dutyPos ≤ 7 ∧
  p.env.period ≤ 7

/-- The ranges of channel 3 (R420). -/
abbrev Wave.InRange (p : Wave) : Prop :=
  p.voice.InRange 3 256 ∧ p.voice.divTc ≤ 2048 ∧ p.wavePos ≤ 31

/-- The ranges of channel 4 (R420); `div_tc` is the noise period (R439). -/
abbrev Noise.InRange (p : Noise) : Prop :=
  p.voice.InRange 15 64 ∧ p.r ≤ 7 ∧ p.s ≤ 15 ∧ p.voice.divTc = noiseDivisor p.r <<< p.s ∧ p.env.period ≤ 7

/-- A level of a signed channel. -/
abbrev LevelBound (v : Int) : Prop := -15 ≤ v ∧ v ≤ 15

/-- What holds of the sound unit in every state (61_sound.md R420, R421, R424). -/
structure SoundInv (s : Sound) : Prop where
  ch1 : s.ch1.InRange
  ch2 : s.ch2.InRange
  ch3 : s.ch3.InRange
  ch4 : s.ch4.InRange
  sweep : s.sweep.period ≤ 7 ∧ s.sweep.shift ≤ 7
  level1 : LevelBound s.ch1.voice.level
  level2 : LevelBound s.ch2.voice.level
  level3 : 0 ≤ s.ch3.voice.level ∧ s.ch3.voice.level ≤ 15
  level4 : LevelBound s.ch4.voice.level
  masterVolume : 0 ≤ s.masterVolume ∧ s.masterVolume ≤ Config.masterVolMax
  seqCtr : 1 ≤ s.seqCtr ∧ s.seqCtr ≤ Config.seqPeriod

/-- The one required property of `IMPULSE_TABLE` (61_sound.md R490): 128 rows of 12 taps, each of which sums
to `IMPULSE_UNIT`. -/
abbrev KernelOk (table : List (List Int)) : Prop :=
  table.length = Config.impulsePhases ∧
  ∀ row ∈ table, row.length = Config.impulseTaps ∧ row.sum = Config.impulseUnit

/-- What holds of the resampler's buffers for a PCM buffer of `frames` frames (61_sound.md R421, R491): the
position is inside the buffer, the buffers have their sizes, and the PCM buffer is clear between flushes. -/
abbrev BuffersFit (frames : Nat) (s : Sound) : Prop :=
  s.pos < frames * Config.clk ∧ s.impL.length = frames + Config.impulseTaps ∧
  s.impR.length = frames + Config.impulseTaps ∧ s.out = List.replicate (2 * frames) 0

/-- The running sum and what is still in the impulse buffer make `IMPULSE_UNIT` times the last mixed
level, on each side (61_sound.md R493). -/
abbrev LevelConserved (s : Sound) : Prop :=
  s.accL + s.impL.sum = Config.impulseUnit * s.lastL ∧ s.accR + s.impR.sum = Config.impulseUnit * s.lastR

/-! ### Safe runs -/

/-- A step that ends in a next state in which the session goes on. -/
def Continues (s : State) : Prop := ∃ t, step s = .next t ∧ t.cpu.stopReason = none

/-- The states a run of steps goes through. -/
inductive Reaches (s : State) : State → Prop where
  | refl : Reaches s s
  | step {t u : State} (h : Reaches s t) (e : Machine.step t = .next u) : Reaches s u

/-- A run from `s` is safe if every state it reaches can go on: no fatal outcome is met. -/
def SafeFrom (s : State) : Prop := ∀ t, Reaches s t → Continues t

end Sys2Proof.Machine
end

