-- ==== Sys2Proof/Certificates/Slice0/Obligations.lean ====
section
/-! DEFINITION. The statements for the provers. In a statement about `exec i s` the state `s` is the one
after the fetch of the instruction's bytes, so `s.cpu.pc` is the address after the instruction (00_scope.md
R15); `Obligations.StepRunsDecoded` and `Obligations.FetchReadsInstruction` say how a step gets there. -/

section

open Sys2Proof Sys2Proof.Machine

/-! ### Loads, stores and the stack -/

/-- 40_loads.md R150, R151: LD r,r' for every pair of registers and LD r,n8; F, SP, PC and all else are
unchanged. -/
def Obligations.RegisterLoads : Prop :=
  (∀ (dst src : Reg8) (s : State),
      encode (.ldOf dst src) = [BitVec.ofNat 8 (0x40 + 8 * dst.code + src.code)] ∧
      ∃ t, exec (.ldOf dst src) s = .next t ∧ t.reg8 dst = s.reg8 src ∧
        t.cpu.f = s.cpu.f ∧ t.cpu.sp = s.cpu.sp ∧ t.cpu.pc = s.cpu.pc ∧ RegsOnly [dst] 4 s t) ∧
  (∀ (dst : Reg8) (n : Byte) (s : State),
      encode (.ldImmOf dst n) = [BitVec.ofNat 8 (0x06 + 8 * dst.code), n] ∧
      ∃ t, exec (.ldImmOf dst n) s = .next t ∧ t.reg8 dst = n ∧
        t.cpu.f = s.cpu.f ∧ t.cpu.sp = s.cpu.sp ∧ t.cpu.pc = s.cpu.pc ∧ RegsOnly [dst] 8 s t)

/-- 40_loads.md R152, R155, R156, R159, R161, R163: each load reads one byte through the bus, at the
address its mode gives in the state before the load, and stores nothing. -/
def Obligations.LoadsFromMemory : Prop :=
  ∀ (s : State),
    (∀ (i : Instr) (dst : Reg8) (a : Word) (cycles : Nat) (bytes : List Byte),
      (i, dst, a, cycles, bytes) ∈
        [(.ld_a_mbc, .a, s.bc, 8, [0x0A#8]), (.ld_a_mde, .a, s.de, 8, [0x1A#8]),
         (.ld_a_mc, .a, 0xFF00#16 + s.cpu.c.setWidth 16, 8, [0xF2#8])] ∨
      (∃ r : Reg8, i = .ldFromHlOf r ∧ dst = r ∧ a = s.hl ∧ cycles = 8 ∧
        bytes = [BitVec.ofNat 8 (0x46 + 8 * r.code)]) ∨
      (∃ nn : Word, i = .ld_a_ma16 nn ∧ dst = .a ∧ a = nn ∧ cycles = 16 ∧
        bytes = [0xFA#8, loByte nn, hiByte nn]) ∨
      (∃ n : Byte, i = .ldh_a_ma8 n ∧ dst = .a ∧ a = 0xFF00#16 + n.setWidth 16 ∧ cycles = 12 ∧
        bytes = [0xF0#8, n]) →
      encode i = bytes ∧
      ∃ t, exec i s = .next t ∧ t.reg8 dst = s.peek a ∧
        t.cpu.f = s.cpu.f ∧ t.cpu.sp = s.cpu.sp ∧ t.cpu.pc = s.cpu.pc ∧ ReadsOnly a [dst] cycles s t)

/-- 40_loads.md R153, R154, R157, R158, R160, R162, R164: each store offers one byte to the bus at the
address its mode gives; no register, flag or control bit changes. -/
def Obligations.StoresToMemory : Prop :=
  ∀ (s : State),
    (∀ (i : Instr) (a : Word) (v : Byte) (cycles : Nat) (bytes : List Byte),
      (i, a, v, cycles, bytes) ∈
        [(.ld_mbc_a, s.bc, s.cpu.a, 8, [0x02#8]), (.ld_mde_a, s.de, s.cpu.a, 8, [0x12#8]),
         (.ld_mc_a, 0xFF00#16 + s.cpu.c.setWidth 16, s.cpu.a, 8, [0xE2#8])] ∨
      (∃ r : Reg8, i = .ldToHlOf r ∧ a = s.hl ∧ v = s.reg8 r ∧ cycles = 8 ∧
        bytes = [BitVec.ofNat 8 (0x70 + r.code)]) ∨
      (∃ n : Byte, i = .ld_mhl_d8 n ∧ a = s.hl ∧ v = n ∧ cycles = 12 ∧ bytes = [0x36#8, n]) ∨
      (∃ nn : Word, i = .ld_ma16_a nn ∧ a = nn ∧ v = s.cpu.a ∧ cycles = 16 ∧
        bytes = [0xEA#8, loByte nn, hiByte nn]) ∨
      (∃ n : Byte, i = .ldh_ma8_a n ∧ a = 0xFF00#16 + n.setWidth 16 ∧ v = s.cpu.a ∧ cycles = 12 ∧
        bytes = [0xE0#8, n]) →
      encode i = bytes ∧
      ∃ t, exec i s = .next t ∧
        t.cpu.f = s.cpu.f ∧ t.cpu.sp = s.cpu.sp ∧ t.cpu.pc = s.cpu.pc ∧ StoresByte a v [] cycles s t)

/-- 40_loads.md R165-R168: the access is at the old HL, which then goes up or down by one, wrapping. -/
def Obligations.LoadStoreHlStep : Prop :=
  ∀ (s : State),
    encode .ld_mhli_a = [0x22#8] ∧ encode .ld_a_mhli = [0x2A#8] ∧
    encode .ld_mhld_a = [0x32#8] ∧ encode .ld_a_mhld = [0x3A#8] ∧
    (∃ t, exec .ld_mhli_a s = .next t ∧ t.hl = s.hl + 1#16 ∧ StoresByte s.hl s.cpu.a [.h, .l] 8 s t ∧
      t.cpu.f = s.cpu.f ∧ t.cpu.sp = s.cpu.sp ∧ t.cpu.pc = s.cpu.pc) ∧
    (∃ t, exec .ld_mhld_a s = .next t ∧ t.hl = s.hl - 1#16 ∧ StoresByte s.hl s.cpu.a [.h, .l] 8 s t ∧
      t.cpu.f = s.cpu.f ∧ t.cpu.sp = s.cpu.sp ∧ t.cpu.pc = s.cpu.pc) ∧
    (∃ t, exec .ld_a_mhli s = .next t ∧ t.hl = s.hl + 1#16 ∧ t.cpu.a = s.peek s.hl ∧
      ReadsOnly s.hl [.a, .h, .l] 8 s t ∧ t.cpu.f = s.cpu.f ∧ t.cpu.sp = s.cpu.sp ∧ t.cpu.pc = s.cpu.pc) ∧
    (∃ t, exec .ld_a_mhld s = .next t ∧ t.hl = s.hl - 1#16 ∧ t.cpu.a = s.peek s.hl ∧
      ReadsOnly s.hl [.a, .h, .l] 8 s t ∧ t.cpu.f = s.cpu.f ∧ t.cpu.sp = s.cpu.sp ∧ t.cpu.pc = s.cpu.pc)

/-- 40_loads.md R169-R171: LD rr,nn, LD SP,HL, and LD (nn),SP, which stores the low byte at nn and then the
high byte at nn+1, wrapping, with no register or flag changed. -/
def Obligations.SixteenBitLoads : Prop :=
  (∀ (s : State),
      (∀ (p : Pair) (nn : Word),
        encode (.ldPairOf p nn) = [BitVec.ofNat 8 (0x01 + 16 * p.code), loByte nn, hiByte nn] ∧
        ∃ t, exec (.ldPairOf p nn) s = .next t ∧ t.pair p = nn ∧ (p ≠ .sp → t.cpu.sp = s.cpu.sp) ∧
          t.cpu.f = s.cpu.f ∧ t.cpu.pc = s.cpu.pc ∧ RegsOnly (pairRegs p) 12 s t) ∧
      encode .ld_sp_hl = [0xF9#8] ∧
      (∃ t, exec .ld_sp_hl s = .next t ∧ t.cpu.sp = s.hl ∧ t.cpu.f = s.cpu.f ∧ t.cpu.pc = s.cpu.pc ∧
        RegsOnly [] 8 s t)) ∧
  (∀ (nn : Word) (s : State),
      encode (.ld_ma16_sp nn) = [0x08#8, loByte nn, hiByte nn] ∧
      ∃ t, exec (.ld_ma16_sp nn) s = .next t ∧ t.cpu = s.cpu ∧ t.cycles = 20 ∧ t.draws = s.draws ∧
        OutsideSame ((s.memWrite nn (loByte s.cpu.sp)).memWrite (nn + 1#16) (hiByte s.cpu.sp)) t ∧
        StoresOnlyAt [nn, nn + 1#16] s t ∧
        (IsStored nn → t.peek nn = loByte s.cpu.sp) ∧
        (IsStored (nn + 1#16) → t.peek (nn + 1#16) = hiByte s.cpu.sp))

/-- 40_loads.md R172, R173: PUSH, with the two addresses the bytes go to. POP reads the low byte at SP and the
high byte at SP+1; POP AF keeps bits 7-4 of the low byte as F, every other POP leaves F. -/
def Obligations.PushAndPop : Prop :=
  (∀ (p : StackPair) (s : State),
      encode (.pushOf p) = [BitVec.ofNat 8 (0xC5 + 16 * p.code)] ∧
      ∃ t, exec (.pushOf p) s = .next t ∧ PushesWord (s.stackPair p) s t ∧
        t.cpu.pc = s.cpu.pc ∧ ControlSame s t ∧ t.cycles = 16) ∧
  (∀ (s : State),
      (∀ p : StackPair, encode (.popOf p) = [BitVec.ofNat 8 (0xC1 + 16 * p.code)]) ∧
      (∀ (p : Pair) (q : StackPair), (p, q) ∈ [(Pair.bc, StackPair.bc), (.de, .de), (.hl, .hl)] →
        ∃ t, exec (.popOf q) s = .next t ∧ t.pair p = poppedWord s ∧ t.cpu.f = s.cpu.f ∧
          t.cpu.pc = s.cpu.pc ∧ ControlSame s t ∧ t.cycles = 12 ∧ PopsWord (pairRegs p) s t) ∧
      (∃ t, exec (.popOf .af) s = .next t ∧ t.cpu.a = hiByte (poppedWord s) ∧
        t.cpu.f = loByte (poppedWord s) &&& 0xF0#8 ∧
        t.cpu.pc = s.cpu.pc ∧ ControlSame s t ∧ t.cycles = 12 ∧ PopsWord [.a] s t))

/-! ### 8-bit arithmetic and logic -/

/-- 41_alu8.md R199, R202-R209: the eight operations in their three operand forms. -/
def Obligations.AluOperations : Prop :=
  ∀ (op : AluOp) (s : State),
    (∀ r : Reg8, encode (.aluOf op (.reg r)) = [BitVec.ofNat 8 (0x80 + 8 * op.code + r.code)] ∧
      ∃ t, exec (.aluOf op (.reg r)) s = .next t ∧ AluResult op (s.reg8 r) s t ∧
        t.cpu.sp = s.cpu.sp ∧ t.cpu.pc = s.cpu.pc ∧ RegsOnly [.a] 4 s t) ∧
    (encode (.aluOf op .mem) = [BitVec.ofNat 8 (0x86 + 8 * op.code)] ∧
      ∃ t, exec (.aluOf op .mem) s = .next t ∧ AluResult op (s.peek s.hl) s t ∧
        t.cpu.sp = s.cpu.sp ∧ t.cpu.pc = s.cpu.pc ∧ ReadsOnly s.hl [.a] 8 s t) ∧
    (∀ n : Byte, encode (.aluImmOf op n) = [BitVec.ofNat 8 (0xC6 + 8 * op.code), n] ∧
      ∃ t, exec (.aluImmOf op n) s = .next t ∧ AluResult op n s t ∧
        t.cpu.sp = s.cpu.sp ∧ t.cpu.pc = s.cpu.pc ∧ RegsOnly [.a] 8 s t)

/-- 41_alu8.md R201: the model's carry and half-carry equal the true ones but when the carry-in makes the
operand a full turn, where they are 0. `c` is the carry-in, 0 for ADD, SUB and CP. -/
def Obligations.FlagMethodAgainstTrueCarry : Prop :=
  ∀ (a x c : Byte), c.toNat ≤ 1 →
    (carryAdd a (a + x + c) = (decide (0x100 ≤ a.toNat + x.toNat + c.toNat) && decide (x.toNat + c.toNat ≠ 0x100))) ∧
    (halfAdd a (a + x + c) =
      (decide (0x10 ≤ a.toNat % 16 + x.toNat % 16 + c.toNat) && decide (x.toNat % 16 + c.toNat ≠ 0x10))) ∧
    (carrySub a (a - x - c) = (decide (a.toNat < x.toNat + c.toNat) && decide (x.toNat + c.toNat ≠ 0x100))) ∧
    (halfSub a (a - x - c) =
      (decide (a.toNat % 16 < x.toNat % 16 + c.toNat) && decide (x.toNat % 16 + c.toNat ≠ 0x10)))

/-- 41_alu8.md R210, R212: INC r and DEC r; C is unchanged. -/
def Obligations.IncDecRegister : Prop :=
  ∀ (r : Reg8) (s : State),
    encode (.incOf (.reg r)) = [BitVec.ofNat 8 (0x04 + 8 * r.code)] ∧
    encode (.decOf (.reg r)) = [BitVec.ofNat 8 (0x05 + 8 * r.code)] ∧
    (∃ t, exec (.incOf (.reg r)) s = .next t ∧ t.reg8 r = s.reg8 r + 1#8 ∧
      comparedFlags false (s.reg8 r) (s.reg8 r + 1#8) s.flagC t ∧
      t.cpu.sp = s.cpu.sp ∧ t.cpu.pc = s.cpu.pc ∧ RegsOnly [r] 4 s t) ∧
    (∃ t, exec (.decOf (.reg r)) s = .next t ∧ t.reg8 r = s.reg8 r - 1#8 ∧
      comparedFlags true (s.reg8 r) (s.reg8 r - 1#8) s.flagC t ∧
      t.cpu.sp = s.cpu.sp ∧ t.cpu.pc = s.cpu.pc ∧ RegsOnly [r] 4 s t)

/-- 41_alu8.md R211, R213: INC (HL) and DEC (HL), one read then one write through the bus; the flags come
from the value read whether or not the address stores bytes. -/
def Obligations.IncDecMemory : Prop :=
  ∀ (s : State),
    encode (.incOf .mem) = [0x34#8] ∧ encode (.decOf .mem) = [0x35#8] ∧
    (∃ t, exec (.incOf .mem) s = .next t ∧ RewritesByte s.hl (s.peek s.hl + 1#8) 12 s t ∧
      comparedFlags false (s.peek s.hl) (s.peek s.hl + 1#8) s.flagC t ∧
      t.cpu.sp = s.cpu.sp ∧ t.cpu.pc = s.cpu.pc) ∧
    (∃ t, exec (.decOf .mem) s = .next t ∧ RewritesByte s.hl (s.peek s.hl - 1#8) 12 s t ∧
      comparedFlags true (s.peek s.hl) (s.peek s.hl - 1#8) s.flagC t ∧
      t.cpu.sp = s.cpu.sp ∧ t.cpu.pc = s.cpu.pc)

/-- 41_alu8.md R220-R222: CPL, SCF and CCF. -/
def Obligations.AccumulatorFlagOps : Prop :=
  ∀ (s : State),
    encode .cpl = [0x2F#8] ∧ encode .scf = [0x37#8] ∧ encode .ccf = [0x3F#8] ∧
    (∃ t, exec .cpl s = .next t ∧ t.cpu.a = s.cpu.a ^^^ 0xFF#8 ∧ FlagsAre s.flagZ true true s.flagC t ∧
      t.cpu.sp = s.cpu.sp ∧ t.cpu.pc = s.cpu.pc ∧ RegsOnly [.a] 4 s t) ∧
    (∃ t, exec .scf s = .next t ∧ FlagsAre s.flagZ false false true t ∧
      t.cpu.sp = s.cpu.sp ∧ t.cpu.pc = s.cpu.pc ∧ RegsOnly [] 4 s t) ∧
    (∃ t, exec .ccf s = .next t ∧ FlagsAre s.flagZ false false (!s.flagC) t ∧
      t.cpu.sp = s.cpu.sp ∧ t.cpu.pc = s.cpu.pc ∧ RegsOnly [] 4 s t)

/-- 41_alu8.md R223, R224: DAA in the mode of the instance (00_scope.md R9), `adjust_only` unless it says
otherwise. `adjust_only` writes the adjusted A and no flag, `hardware` writes Z, H and C too, `refuse` has no
meaning. -/
def Obligations.DecimalAdjust : Prop :=
  encode .daa = [0x27#8] ∧ State.reset.host.daaMode = .adjustOnly ∧
  ∀ (s : State),
    (s.host.daaMode = .adjustOnly → ∃ t, exec .daa s = .next t ∧
      t.cpu.a = BitVec.ofNat 8 (decimalAdjust s.cpu.a.toNat s.flagN s.flagH s.flagC).1 ∧
      t.cpu.f = s.cpu.f ∧ t.cpu.sp = s.cpu.sp ∧ t.cpu.pc = s.cpu.pc ∧ RegsOnly [.a] 4 s t) ∧
    (s.host.daaMode = .hardware → ∃ t, exec .daa s = .next t ∧
      t.cpu.a = BitVec.ofNat 8 (decimalAdjust s.cpu.a.toNat s.flagN s.flagH s.flagC).1 ∧
      FlagsAre (decide (t.cpu.a = 0#8)) s.flagN false
        (decimalAdjust s.cpu.a.toNat s.flagN s.flagH s.flagC).2 t ∧
      t.cpu.sp = s.cpu.sp ∧ t.cpu.pc = s.cpu.pc ∧ RegsOnly [.a] 4 s t) ∧
    (s.host.daaMode = .refuse → exec .daa s = .refused .daaRefused)

/-! ### 16-bit arithmetic -/

/-- 42_alu16.md R250-R252: ADD HL,rr, with the carries out of bits 11 and 15 and Z unchanged; INC rr and DEC rr
wrap and write no flag. -/
def Obligations.PairArithmetic : Prop :=
  (∀ (p : Pair) (s : State),
      encode (.addHlOf p) = [BitVec.ofNat 8 (0x09 + 16 * p.code)] ∧
      ∃ t, exec (.addHlOf p) s = .next t ∧ t.hl = s.hl + s.pair p ∧
        FlagsAre s.flagZ false (decide (0x0FFF < s.hl.toNat % 0x1000 + (s.pair p).toNat % 0x1000))
          (decide (0xFFFF < s.hl.toNat + (s.pair p).toNat)) t ∧
        t.cpu.sp = s.cpu.sp ∧ t.cpu.pc = s.cpu.pc ∧ RegsOnly [.h, .l] 8 s t) ∧
  (∀ (p : Pair) (s : State),
      encode (.incPairOf p) = [BitVec.ofNat 8 (0x03 + 16 * p.code)] ∧
      encode (.decPairOf p) = [BitVec.ofNat 8 (0x0B + 16 * p.code)] ∧
      (∃ t, exec (.incPairOf p) s = .next t ∧ t.pair p = s.pair p + 1#16 ∧
        (p ≠ .sp → t.cpu.sp = s.cpu.sp) ∧ t.cpu.f = s.cpu.f ∧ t.cpu.pc = s.cpu.pc ∧
        RegsOnly (pairRegs p) 8 s t) ∧
      (∃ t, exec (.decPairOf p) s = .next t ∧ t.pair p = s.pair p - 1#16 ∧
        (p ≠ .sp → t.cpu.sp = s.cpu.sp) ∧ t.cpu.f = s.cpu.f ∧ t.cpu.pc = s.cpu.pc ∧
        RegsOnly (pairRegs p) 8 s t))

/-- 42_alu16.md R253, R254: the sum takes the byte as signed, the carries take it as unsigned. -/
def Obligations.StackPointerOffset : Prop :=
  ∀ (e : Byte) (s : State),
    encode (.add_sp_e8 e) = [0xE8#8, e] ∧ encode (.ld_hl_sp_e8 e) = [0xF8#8, e] ∧
    (∃ t, exec (.add_sp_e8 e) s = .next t ∧ t.cpu.sp = BitVec.ofInt 16 (s.cpu.sp.toNat + e.toInt) ∧
      FlagsAre false false (decide (0x0F < s.cpu.sp.toNat % 0x10 + e.toNat % 0x10))
        (decide (0xFF < s.cpu.sp.toNat % 0x100 + e.toNat)) t ∧
      t.cpu.pc = s.cpu.pc ∧ RegsOnly [] 16 s t) ∧
    (∃ t, exec (.ld_hl_sp_e8 e) s = .next t ∧ t.hl = BitVec.ofInt 16 (s.cpu.sp.toNat + e.toInt) ∧
      FlagsAre false false (decide (0x0F < s.cpu.sp.toNat % 0x10 + e.toNat % 0x10))
        (decide (0xFF < s.cpu.sp.toNat % 0x100 + e.toNat)) t ∧
      t.cpu.sp = s.cpu.sp ∧ t.cpu.pc = s.cpu.pc ∧ RegsOnly [.h, .l] 12 s t)

/-! ### Rotates, shifts and bits -/

/-- 43_rotate_shift_bit.md R270-R273, R275-R282: the accumulator rotates, with Z 0 whatever the result, and the CB
rotates and shifts on a register and on (HL). -/
def Obligations.RotatesAndShifts : Prop :=
  (∀ (i : Instr) (op : RotOp) (b : Byte) (s : State),
      (i, op, b) ∈ [(Instr.rlca, RotOp.rlc, 0x07#8), (.rrca, .rrc, 0x0F#8), (.rla, .rl, 0x17#8), (.rra, .rr, 0x1F#8)] →
      encode i = [b] ∧
      ∃ t, exec i s = .next t ∧ t.cpu.a = (rotatedByte op s.cpu.a s).1 ∧
        FlagsAre false false false (rotatedByte op s.cpu.a s).2 t ∧
        t.cpu.sp = s.cpu.sp ∧ t.cpu.pc = s.cpu.pc ∧ RegsOnly [.a] 4 s t) ∧
  (∀ (op : RotOp) (s : State),
      (∀ o : Opnd, encode (.rotOf op o) = [0xCB#8, BitVec.ofNat 8 (8 * op.code + o.code)]) ∧
      (∀ r : Reg8, ∃ t, exec (.rotOf op (.reg r)) s = .next t ∧
        t.reg8 r = (rotatedByte op (s.reg8 r) s).1 ∧
        FlagsAre (decide (t.reg8 r = 0#8)) false false (rotatedByte op (s.reg8 r) s).2 t ∧
        t.cpu.sp = s.cpu.sp ∧ t.cpu.pc = s.cpu.pc ∧ RegsOnly [r] 8 s t) ∧
      (∃ t, exec (.rotOf op .mem) s = .next t ∧
        RewritesByte s.hl (rotatedByte op (s.peek s.hl) s).1 16 s t ∧
        FlagsAre (decide ((rotatedByte op (s.peek s.hl) s).1 = 0#8)) false false
          (rotatedByte op (s.peek s.hl) s).2 t ∧
        t.cpu.sp = s.cpu.sp ∧ t.cpu.pc = s.cpu.pc))

/-- 43_rotate_shift_bit.md R283-R285: BIT writes Z, N and H and nothing else; RES and SET write one bit of the
operand and no flag. -/
def Obligations.BitOperations : Prop :=
  (∀ (b : Fin 8) (s : State),
      (∀ o : Opnd, encode (.bitOf b o) = [0xCB#8, BitVec.ofNat 8 (0x40 + 8 * b.val + o.code)]) ∧
      (∀ r : Reg8, ∃ t, exec (.bitOf b (.reg r)) s = .next t ∧
        FlagsAre (decide ((s.reg8 r).toNat / 2 ^ b.val % 2 = 0)) false true s.flagC t ∧
        t.cpu.sp = s.cpu.sp ∧ t.cpu.pc = s.cpu.pc ∧ RegsOnly [] 8 s t) ∧
      (∃ t, exec (.bitOf b .mem) s = .next t ∧
        FlagsAre (decide ((s.peek s.hl).toNat / 2 ^ b.val % 2 = 0)) false true s.flagC t ∧
        t.cpu.sp = s.cpu.sp ∧ t.cpu.pc = s.cpu.pc ∧ ReadsOnly s.hl [] 12 s t)) ∧
  (∀ (b : Fin 8) (s : State),
      (∀ o : Opnd, encode (.resOf b o) = [0xCB#8, BitVec.ofNat 8 (0x80 + 8 * b.val + o.code)] ∧
        encode (.setOf b o) = [0xCB#8, BitVec.ofNat 8 (0xC0 + 8 * b.val + o.code)]) ∧
      (∀ (i : Opnd → Instr) (x : Bool), (i, x) ∈ [(Instr.resOf b, false), (Instr.setOf b, true)] →
        (∀ r : Reg8, ∃ t, exec (i (.reg r)) s = .next t ∧ withBit b x (s.reg8 r) (t.reg8 r) ∧
          t.cpu.f = s.cpu.f ∧ t.cpu.sp = s.cpu.sp ∧ t.cpu.pc = s.cpu.pc ∧ RegsOnly [r] 8 s t) ∧
        (∃ t v, exec (i .mem) s = .next t ∧ withBit b x (s.peek s.hl) v ∧ RewritesByte s.hl v 16 s t ∧
          t.cpu.f = s.cpu.f ∧ t.cpu.sp = s.cpu.sp ∧ t.cpu.pc = s.cpu.pc)))

/-! ### Control transfer -/

/-- 44_control.md R301-R305: a jump writes PC alone; one not taken leaves PC at the next instruction. -/
def Obligations.Jumps : Prop :=
  ∀ (s : State) (cc : Cond) (nn : Word) (e : Byte),
    encode (.jp_a16 nn) = [0xC3#8, loByte nn, hiByte nn] ∧
    encode (.jpIfOf cc nn) = [BitVec.ofNat 8 (0xC2 + 8 * cc.code), loByte nn, hiByte nn] ∧
    encode .jp_hl = [0xE9#8] ∧ encode (.jr_e8 e) = [0x18#8, e] ∧
    encode (.jrIfOf cc e) = [BitVec.ofNat 8 (0x20 + 8 * cc.code), e] ∧
    (∀ (i : Instr) (target : Word) (cycles : Nat),
      (i, target, cycles) ∈
        [(.jp_a16 nn, nn, 16), (.jp_hl, s.hl, 4),
         (.jr_e8 e, BitVec.ofInt 16 (s.cpu.pc.toNat + e.toInt), 12),
         (.jpIfOf cc nn, if condHolds cc s then nn else s.cpu.pc, if condHolds cc s then 16 else 12),
         (.jrIfOf cc e, if condHolds cc s then BitVec.ofInt 16 (s.cpu.pc.toNat + e.toInt) else s.cpu.pc,
          if condHolds cc s then 12 else 8)] →
      ∃ t, exec i s = .next t ∧ t.cpu.pc = target ∧ t.cpu.f = s.cpu.f ∧ t.cpu.sp = s.cpu.sp ∧
        RegsOnly [] cycles s t)

/-- 44_control.md R306, R307, R312: CALL and RST push the address after the instruction and jump; a CALL
not taken changes nothing. -/
def Obligations.CallsAndRestarts : Prop :=
  ∀ (s : State) (cc : Cond) (nn : Word) (y : Fin 8),
    encode (.call_a16 nn) = [0xCD#8, loByte nn, hiByte nn] ∧
    encode (.callIfOf cc nn) = [BitVec.ofNat 8 (0xC4 + 8 * cc.code), loByte nn, hiByte nn] ∧
    encode (.rstOf y) = [BitVec.ofNat 8 (0xC7 + 8 * y.val)] ∧
    (∃ t, exec (.call_a16 nn) s = .next t ∧ PushesWord s.cpu.pc s t ∧ t.cpu.pc = nn ∧
      ControlSame s t ∧ t.cycles = 24) ∧
    (condHolds cc s = true → ∃ t, exec (.callIfOf cc nn) s = .next t ∧ PushesWord s.cpu.pc s t ∧
      t.cpu.pc = nn ∧ ControlSame s t ∧ t.cycles = 24) ∧
    (condHolds cc s = false → ∃ t, exec (.callIfOf cc nn) s = .next t ∧ t.cpu = s.cpu ∧
      RegsOnly [] 12 s t) ∧
    (∃ t, exec (.rstOf y) s = .next t ∧ PushesWord s.cpu.pc s t ∧ t.cpu.pc = BitVec.ofNat 16 (8 * y.val) ∧
      ControlSame s t ∧ t.cycles = 16)

/-- 44_control.md R308, R309, R311: RET pops PC and leaves `ime`, RETI pops PC and sets `ime`; a RET cc not
taken changes nothing. -/
def Obligations.Returns : Prop :=
  ∀ (s : State) (cc : Cond),
    encode .ret = [0xC9#8] ∧ encode (.retIfOf cc) = [BitVec.ofNat 8 (0xC0 + 8 * cc.code)] ∧
    encode .reti = [0xD9#8] ∧
    (∃ t, exec .ret s = .next t ∧ t.cpu.pc = poppedWord s ∧ PopsWord [] s t ∧ t.cpu.f = s.cpu.f ∧
      ControlSame s t ∧ t.cycles = 16) ∧
    (condHolds cc s = true → ∃ t, exec (.retIfOf cc) s = .next t ∧ t.cpu.pc = poppedWord s ∧
      PopsWord [] s t ∧ t.cpu.f = s.cpu.f ∧ ControlSame s t ∧ t.cycles = 20) ∧
    (condHolds cc s = false → ∃ t, exec (.retIfOf cc) s = .next t ∧ t.cpu = s.cpu ∧
      RegsOnly [] 8 s t) ∧
    (∃ t, exec .reti s = .next t ∧ t.cpu.pc = poppedWord s ∧ PopsWord [] s t ∧ t.cpu.f = s.cpu.f ∧
      t.cpu.ime = true ∧ t.cpu.halted = s.cpu.halted ∧ t.cpu.stopReason = s.cpu.stopReason ∧ t.cycles = 16)

/-! ### CPU control -/

/-- 45_cpu_control.md R330, R333, R334: NOP, DI and EI, the last two at once. -/
def Obligations.NopDiEi : Prop :=
  ∀ (s : State),
    encode .nop = [0x00#8] ∧ encode .di = [0xF3#8] ∧ encode .ei = [0xFB#8] ∧
    (∃ t, exec .nop s = .next t ∧ t.cpu = s.cpu ∧ OutsideSame s t ∧ MemorySame s t ∧ t.cycles = 4) ∧
    (∃ t, exec .di s = .next t ∧ t.cpu = { s.cpu with ime := false } ∧ OutsideSame s t ∧
      MemorySame s t ∧ t.cycles = 4) ∧
    (∃ t, exec .ei s = .next t ∧ t.cpu = { s.cpu with ime := true } ∧ OutsideSame s t ∧
      MemorySame s t ∧ t.cycles = 4)

/-- 45_cpu_control.md R331, 60_exceptions.md R351, R352: HALT sets `halted`; a halted step fetches nothing, and
ends in `HaltLockup` with `ime = 0`, in 4 cycles and no other change with `ime = 1`; the machine's step then goes on
as after an instruction of 4 cycles. That the fatal outcome is a next state with `stop_reason` set and a cycle count
of 0 is the model's form (log 8). -/
def Obligations.HaltAndHaltedSteps : Prop :=
  ∀ (s : State),
    encode .halt = [0x76#8] ∧
    (∃ t, exec .halt s = .next t ∧ t.cpu = { s.cpu with halted := true } ∧ OutsideSame s t ∧
      MemorySame s t ∧ t.cycles = 4) ∧
    (s.cpu.stopReason = none → s.cpu.halted = true → s.cpu.ime = false →
      step s = .next { s with cpu := { s.cpu with stopReason := some .haltLockup }, cycles := 0 }) ∧
    (s.cpu.stopReason = none → s.cpu.halted = true → s.cpu.ime = true →
      s.cpuStep = .next { s with cycles := 4 } ∧
      step s = .next (((({ s with cycles := 4 } : State).runFor 4).vblankCheck 4).1.timerCheck 4).1)

/-- 45_cpu_control.md R332, R335, 30_encoding.md R128, 60_exceptions.md R351: STOP and the eleven illegal opcodes
take the fatal outcome, which records the opcode and the address it was fetched from; nothing else is written but
the diagnostic, and no cycles are charged. That the fatal outcome is a next state with `stop_reason` set and a
cycle count of 0 is the model's form (log 8). -/
def Obligations.StopAndIllegalAreFatal : Prop :=
  ∀ (s : State),
    encode .stop = [0x10#8] ∧
    illegalRows.map Prod.fst = [0xD3#8, 0xDB#8, 0xDD#8, 0xE3#8, 0xE4#8, 0xEB#8, 0xEC#8, 0xED#8, 0xF4#8,
      0xFC#8, 0xFD#8] ∧
    (∃ t, exec .stop s = .next t ∧ t.cpu = { s.cpu with stopReason := some .stopInstruction } ∧
      OutsideSame s t ∧ MemorySame s t ∧ t.cycles = 0) ∧
    (∀ r ∈ illegalRows, encode r.2 = [r.1] ∧
      let addr := s.cpu.pc - 1#16
      ∃ t, exec r.2 s = .next t ∧
        t.cpu = { s.cpu with stopReason := some (.illegalOpcode r.1 addr) } ∧
        t.host = { s.host with events := .diag (.illegalOpcode r.1 addr) :: s.host.events } ∧
        t.bus = s.bus ∧ t.timers = s.timers ∧ t.snd = s.snd ∧ t.sessionCycles = s.sessionCycles ∧
        t.draws = s.draws ∧ MemorySame s t ∧ t.cycles = 0)

/-- 45_cpu_control.md R336: the prefix with a sub-opcode runs the instruction the decoder gives for the two
bytes, for every sub-opcode. -/
def Obligations.CbPrefixRunsSubOpcode : Prop :=
  ∀ (op2 : Byte) (s : State), ∃ i,
    decode [0xCB#8, op2] = .ok (i, []) ∧ i.wellFormed = true ∧
    exec (.cb_prefix op2) s = exec i s ∧ ∃ t, exec (.cb_prefix op2) s = .next t

/-- 30_encoding.md R123, R127, 60_exceptions.md R353, R354: no instruction faults or is refused, but DAA in an
instance whose `DAA_MODE` is `refuse` (41_alu8.md R224); each ends in a next state, fatal for STOP and the illegal
opcodes alone, and in every other case with 4 to 24 cycles charged, a multiple of 4. -/
def Obligations.EveryInstructionCompletes : Prop :=
  ∀ (i : Instr) (s : State),
    (i = .daa ∧ s.host.daaMode = .refuse → exec i s = .refused .daaRefused) ∧
    (¬ (i = .daa ∧ s.host.daaMode = .refuse) → ∃ t, exec i s = .next t ∧
      ((i = .stop ∨ ∃ r ∈ illegalRows, i = r.2) → t.cpu.stopReason.isSome = true ∧ t.cycles = 0) ∧
      (¬ (i = .stop ∨ ∃ r ∈ illegalRows, i = r.2) →
        t.cpu.stopReason = s.cpu.stopReason ∧ 4 ≤ t.cycles ∧ t.cycles ≤ 24 ∧ t.cycles % 4 = 0))

/-! ### Encoding -/

/-- Words written out from 30_encoding.md R110, R112-R120 and the maps of R123 and R127. -/
def Obligations.SampleWords : Prop :=
  decode [0x48#8] = .ok (.ld_c_b, []) ∧
  decode [0x3E#8, 0x7F#8] = .ok (.ld_a_d8 0x7F#8, []) ∧
  decode [0x21#8, 0x34#8, 0x12#8] = .ok (.ld_hl_d16 0x1234#16, []) ∧
  decode [0x76#8] = .ok (.halt, []) ∧
  decode [0x9C#8] = .ok (.sbc_a_h, []) ∧
  decode [0x20#8, 0xFA#8] = .ok (.jr_nz_e8 0xFA#8, []) ∧
  decode [0xEF#8] = .ok (.rst_28, []) ∧
  decode [0xCB#8, 0x37#8] = .ok (.swap_a, []) ∧
  decode [0xCB#8, 0x7C#8] = .ok (.bit_7_h, []) ∧
  decode [0xCB#8, 0xFE#8] = .ok (.set_7_mhl, []) ∧
  decode [0xD3#8] = .ok (.illegal_d3, []) ∧
  decode [0xF8#8, 0x02#8, 0x55#8] = .ok (.ld_hl_sp_e8 0x02#8, [0x55#8])

/-- Decoding and encoding agree both ways: what is encoded from a whole instruction decodes to it, whatever
follows, and what decodes is the encoding of a whole instruction (30_encoding.md sections 1 to 4). -/
def Obligations.DecodeEncodeAgree : Prop :=
  (∀ (i : Instr) (rest : List Byte), i.wellFormed = true → decode (encode i ++ rest) = .ok (i, rest)) ∧
  (∀ (i : Instr) (bytes rest : List Byte), decode bytes = .ok (i, rest) →
    i.wellFormed = true ∧ bytes = encode i ++ rest)

/-- 30_encoding.md R122, R129, R132: the decoder answers an instruction on every three bytes, the number of
bytes it takes is fixed by the first, and it is 2 after 0xCB. -/
def Obligations.DecodeTotal : Prop :=
  (∀ (b0 b1 b2 : Byte) (rest : List Byte), ∃ i, i.wellFormed = true ∧
    decode (b0 :: b1 :: b2 :: rest) = .ok (i, (b0 :: b1 :: b2 :: rest).drop (instrLength b0)) ∧
    (encode i).length = instrLength b0) ∧
  instrLength 0xCB#8 = 2 ∧ ∀ b : Byte, 1 ≤ instrLength b ∧ instrLength b ≤ 3

/-! ### Fetch and step -/

/-- 10_state.md R33, 30_encoding.md R110, R129: a fetch reads as many bytes as the first one says, at successive
wrapping addresses; PC ends after the last, and no other register, no memory and no sound or countdown state
changes; the bytes always decode to a whole instruction and are its encoding. -/
def Obligations.FetchReadsInstruction : Prop :=
  (∀ (s : State),
      let n := instrLength (s.peek s.cpu.pc)
      s.fetchInstr = (fetchedBytes n s, afterFetch n s) ∧
      (afterFetch n s).cpu = { s.cpu with pc := s.cpu.pc + BitVec.ofNat 16 n } ∧
      (afterFetch n s).bus = s.bus ∧ (afterFetch n s).timers = s.timers ∧ (afterFetch n s).snd = s.snd ∧
      (afterFetch n s).sessionCycles = s.sessionCycles ∧ MemorySame s (afterFetch n s) ∧
      ((∀ k, k < n → ¬ IsCounter (s.cpu.pc + BitVec.ofNat 16 k)) →
        fetchedBytes n s = (List.range n).map (fun k => s.peek (s.cpu.pc + BitVec.ofNat 16 k)))) ∧
  (∀ (s : State), ∃ i, i.wellFormed = true ∧ decode s.fetchInstr.1 = .ok (i, []) ∧
      s.fetchInstr.1 = encode i)

/-- 60_exceptions.md R350, R380: a step of a CPU that is neither stopped nor halted runs the instruction
the bytes at PC decode to, on the state after the fetch; then, unless that was fatal, the sound unit
advances by its cycles, the session cycles count them, and the vblank and the timer checks run in this
order. `Obligations.AdvanceRunsCycles` says what the advance is. An instruction without a meaning ends the step. -/
def Obligations.StepRunsDecoded : Prop :=
  ∀ (s : State) (i : Instr) (rest : List Byte),
    s.cpu.stopReason = none → s.cpu.halted = false → decode s.fetchInstr.1 = .ok (i, rest) →
    (∀ r, exec i s.fetchInstr.2 = .refused r → step s = .refused r) ∧
    ∀ t, exec i s.fetchInstr.2 = .next t →
      (t.cpu.stopReason.isSome = true → step s = .next t) ∧
      (t.cpu.stopReason = none →
        step s = .next (((t.runFor t.cycles).vblankCheck t.cycles).1.timerCheck t.cycles).1)

/-- 61_sound.md R445, 60_exceptions.md R380, R374: the advance by `c` cycles adds `c` to the session cycles and
runs the sound cycle exactly `c` times, one after the other; each buffer one of them fills goes to the callback,
where one is registered, before the next runs. Nothing else changes. -/
def Obligations.AdvanceRunsCycles : Prop :=
  (∀ (s : State) (c : Nat), (s.runFor c).sessionCycles = s.sessionCycles + c) ∧
  (∀ (s : State), s.runFor 0 = s) ∧
  (∀ (s : State) (c : Nat),
    let u := s.runFor c
    s.runFor (c + 1) = { u with
      snd := (u.snd.cycle u.host).1
      host := { u.host with events :=
        match (u.snd.cycle u.host).2 with
        | some buffer => if u.host.callback then .pcm buffer :: u.host.events else u.host.events
        | none => u.host.events }
      sessionCycles := u.sessionCycles + 1 })

/-- 60_exceptions.md R351, R355: a stopped machine steps no more, and a step that ends fatally leaves
everything but PC, `stop_reason`, the diagnostics and the draw counter as before it. -/
def Obligations.FatalIsPreciseAndFinal : Prop :=
  (∀ (s : State) (r : StopReason), s.cpu.stopReason = some r → step s = .fault (.stopped r)) ∧
  (∀ (s t : State), s.cpu.stopReason = none → step s = .next t → t.cpu.stopReason.isSome = true →
    FatalSame s t ∧ t.cycles = 0) ∧
  (∀ (s t : State), step s = .next t → s.cpu.stopReason = none)

/-! ### The bus -/

/-- 20_memory.md R77-R79, R82-R90: what each address reads as. -/
def Obligations.ReadMap : Prop :=
  ∀ (s : State) (a : Word),
    (a.toNat < 0x4000 → s.peek a = Memory.read s.bus.rom a.toNat) ∧
    (IsBankWindow a → s.peek a = Memory.read s.bus.rom (s.bus.romBank * 16384 + (a.toNat - 0x4000))) ∧
    (0x8000 ≤ a.toNat → a.toNat < 0xA000 → s.peek a = 0xFF#8) ∧
    (IsRam a → s.peek a = Memory.read s.bus.mem a.toNat) ∧
    (0xE000 ≤ a.toNat → a.toNat < 0xFF00 → s.peek a = 0xFF#8) ∧
    (a = 0xFF06#16 → s.peek a = s.bus.tma) ∧ (a = 0xFF07#16 → s.peek a = s.bus.tac) ∧
    (IsSoundReg a → s.peek a = Memory.read s.snd.regs (a.toNat - 0xFF00)) ∧
    (a = 0xFFFF#16 → s.peek a = s.bus.ie) ∧
    (IsUnimplemented a → s.peek a = 0xFF#8 ∧ s.afterRead a = s.note (.diag (.unimplementedRead a))) ∧
    (IsCounter a → s.peek a = Config.draw s.draws ∧ s.afterRead a = { s with draws := s.draws + 1 }) ∧
    (¬ IsUnimplemented a → ¬ IsCounter a → s.afterRead a = s)

/-- 20_memory.md R80-R90: what a write to each address changes. A write to a sound register stores the byte, then
does the register's action (61_sound.md R430), then calls the observer, and changes nothing else; the actions
have statements of their own. -/
def Obligations.WriteMap : Prop :=
  ∀ (s : State) (a : Word) (v : Byte),
    ((a.toNat < 0x2000 ∨ IsBankWindow a ∨ (0x8000 ≤ a.toNat ∧ a.toNat < 0xA000) ∨
      (0xE000 ≤ a.toNat ∧ a.toNat < 0xFF00) ∨ IsCounter a) → s.memWrite a v = s) ∧
    (IsRam a → s.memWrite a v = { s with bus := { s.bus with mem := Memory.write s.bus.mem a.toNat v } }) ∧
    (a = 0xFFFF#16 → s.memWrite a v = { s with bus := { s.bus with ie := v } }) ∧
    (IsUnimplemented a → s.memWrite a v = s.note (.diag (.unimplementedWrite a v))) ∧
    (IsSoundReg a →
      let low := a.toNat - 0xFF00
      s.memWrite a v = { s with
        snd := Sound.writeAction { s.snd with regs := Memory.write s.snd.regs low v } low v
        host := { s.host with events :=
          if s.host.observer then .ioWrite s.sessionCycles a v :: s.host.events else s.host.events } })

/-- 20_memory.md R80: a bank select takes the whole byte, reads 0 as 1 and clamps to the last bank. That the first
clamp of a session is reported and marked and no later one is, the last clause, is the model's choice (log 11), one
of the policies R101 accepts. -/
def Obligations.BankSelect : Prop :=
  ∀ (s : State) (a : Word) (v : Byte), IsBankSelect a →
    let b := if v = 0#8 then 1 else v.toNat
    (s.memWrite a v).bus = { s.bus with romBank := if b < s.bus.bankCount then b else s.bus.bankCount - 1 } ∧
    (s.memWrite a v).cpu = s.cpu ∧ (s.memWrite a v).timers = s.timers ∧ (s.memWrite a v).snd = s.snd ∧
    (s.memWrite a v).sessionCycles = s.sessionCycles ∧ (s.memWrite a v).draws = s.draws ∧
    (s.memWrite a v).host = { s.host with
      events := if s.bus.bankCount ≤ b ∧ s.host.bankClampWarned = false then .diag .bankClamp :: s.host.events
        else s.host.events
      bankClampWarned := s.host.bankClampWarned || decide (s.bus.bankCount ≤ b) }

/-- 60_exceptions.md R371, 20_memory.md R90: a write to TMA or TAC stores the byte, recomputes the period
and restarts the countdown at it. -/
def Obligations.TimerReprogram : Prop :=
  ∀ (s : State) (a : Word) (v : Byte), IsTimerReg a →
    let t := s.memWrite a v
    t.bus.tma = (if a = 0xFF06#16 then v else s.bus.tma) ∧
    t.bus.tac = (if a = 0xFF07#16 then v else s.bus.tac) ∧
    t.timers.timerPeriod =
      (if t.bus.tac.getLsbD 2 then
        (256 - t.bus.tma.toNat) *
          (if t.bus.tac.toNat % 4 = 0 then 1024 else if t.bus.tac.toNat % 4 = 1 then 16
           else if t.bus.tac.toNat % 4 = 2 then 64 else 256)
       else 0) ∧
    t.timers.timerCtr = t.timers.timerPeriod ∧ t.timers.vblankCtr = s.timers.vblankCtr ∧
    t.bus = { s.bus with tma := t.bus.tma, tac := t.bus.tac } ∧ t.cpu = s.cpu ∧ t.snd = s.snd ∧
    t.host = s.host ∧ t.sessionCycles = s.sessionCycles ∧ t.draws = s.draws

/-- A write reads back where the address stores bytes, and no other address reads otherwise but the
switchable window after a bank select (20_memory.md sections 2 to 4). -/
def Obligations.WriteThenRead : Prop :=
  ∀ (s : State) (a : Word) (v : Byte),
    (IsStored a → (s.memWrite a v).peek a = v) ∧ (¬ IsStored a → ¬ IsBankWindow a →
      (s.memWrite a v).peek a = s.peek a) ∧
    StoresOnlyAt [a] s (s.memWrite a v) ∧ (s.memWrite a v).cpu = s.cpu ∧ (s.memWrite a v).draws = s.draws

/-! ### Interrupts and countdowns -/

/-- 60_exceptions.md R363: delivery clears `halted` and `ime`, pushes PC and goes to the vector; nothing
else is saved or changed, and no cycles are charged. -/
def Obligations.DeliverInterrupt : Prop :=
  ∀ (s : State) (vector : Word),
    let t := s.deliverInterrupt vector
    t.cpu.halted = false ∧ t.cpu.ime = false ∧ t.cpu.pc = vector ∧
    t.cpu.stopReason = s.cpu.stopReason ∧ PushesWord s.cpu.pc s t ∧ t.cycles = s.cycles ∧
    Config.intrDispatchCycles = 0

/-- 60_exceptions.md R367: RETI from a handler that kept SP undoes a delivery whose two stack bytes are in
RAM: PC and SP are those of before, `ime` is 1, and every register and every byte off the stack is as it
was. -/
def Obligations.DeliverThenReti : Prop :=
  ∀ (s : State) (vector : Word), IsRam (s.cpu.sp - 1#16) → IsRam (s.cpu.sp - 2#16) →
    ∃ t, exec .reti (s.deliverInterrupt vector) = .next t ∧
      t.cpu = { s.cpu with halted := false, ime := true } ∧
      ∀ b, b ∉ pushAddresses s → ¬ IsCounter b → t.peek b = s.peek b

/-- 60_exceptions.md R370, R372, R364: each countdown goes down by the step's cycles and is reloaded by one
period at zero or below; its interrupt is delivered exactly where `ime` and its bit of IE are 1, else
the expiry is dropped. -/
def Obligations.Countdowns : Prop :=
  ∀ (s : State) (c : Nat),
    let left := s.timers.vblankCtr - c
    let v := (s.vblankCheck c).1
    let due := s.timers.timerCtr - c
    let t := (s.timerCheck c).1
    (0 < left → v = { s with timers := { s.timers with vblankCtr := left } }) ∧
    (left ≤ 0 →
      let u := { s with timers := { s.timers with vblankCtr := left + 70224 } }
      v = if s.cpu.ime && s.bus.ie.getLsbD 0 then u.deliverInterrupt 0x40#16 else u) ∧
    (s.timers.timerPeriod = 0 → t = s) ∧
    (0 < s.timers.timerPeriod → 0 < due → t = { s with timers := { s.timers with timerCtr := due } }) ∧
    (0 < s.timers.timerPeriod → due ≤ 0 →
      let u := { s with timers := { s.timers with timerCtr := due + s.timers.timerPeriod } }
      t = if s.cpu.ime && s.bus.ie.getLsbD 2 then u.deliverInterrupt 0x48#16 else u)

/-- 60_exceptions.md R365: when both countdowns expire in one iteration and vblank is delivered, the timer
expiry is discarded, both countdowns are reloaded, and the vblank vector is next. The timer check reads
the period the vblank check left. -/
def Obligations.BothExpireVblankWins : Prop :=
  ∀ (s : State) (c : Nat),
    s.cpu.ime = true → s.bus.ie.getLsbD 0 = true → s.timers.vblankCtr ≤ c →
    IsRam (s.cpu.sp - 1#16) → IsRam (s.cpu.sp - 2#16) →
    0 < s.timers.timerPeriod → s.timers.timerCtr ≤ c →
    let t := ((s.vblankCheck c).1.timerCheck c).1
    t.cpu.pc = 0x40#16 ∧ t.cpu.ime = false ∧ t.cpu.sp = s.cpu.sp - 2#16 ∧
    t.timers.vblankCtr = s.timers.vblankCtr - c + 70224 ∧
    t.timers.timerCtr = s.timers.timerCtr - c + s.timers.timerPeriod

/-! ### Reset and the host's operations -/

/-- 70_reset_and_hazards.md R520, R521, 10_state.md R52, 61_sound.md R425: `init` resets everything to the values of
`IsInitState` with the given image, whatever went before, keeps the host's parameters and callbacks, and has no
meaning for a size that is 0, no multiple of 16384 or not the image's. `State.reset` has the same values; its
ROM image and its host parameters are the model's choices (logs 1 and 12). -/
def Obligations.InitResetsEverything : Prop :=
  (∀ (rom : List Byte) (size : Nat) (s : State),
      ((0 < size ∧ size % 16384 = 0 ∧ rom.length = size) →
        ∃ t, hostInit rom size s = .next t ∧ IsInitState t ∧ t.bus.bankCount = size / 16384 ∧
          (∀ k, k < size → Memory.read t.bus.rom k = rom.getD k 0#8) ∧ Memory.wf t.bus.rom ∧
          t.host.sampleRate = s.host.sampleRate ∧ t.host.outFrames = s.host.outFrames ∧
          t.host.mute1 = s.host.mute1 ∧ t.host.mute2 = s.host.mute2 ∧ t.host.mute3 = s.host.mute3 ∧
          t.host.mute4 = s.host.mute4 ∧ t.host.masterFade = s.host.masterFade ∧
          t.host.observer = s.host.observer ∧ t.host.callback = s.host.callback ∧
          t.host.daaMode = s.host.daaMode ∧ t.host.impulseTable = s.host.impulseTable) ∧
      (¬ (0 < size ∧ size % 16384 = 0 ∧ rom.length = size) → hostInit rom size s = .refused .badRomSize)) ∧
  (IsInitState State.reset)

/-- 70_reset_and_hazards.md R522: `start_subsong` writes PC, SP, HL and A and nothing else. -/
def Obligations.StartSubsong : Prop :=
  ∀ (stub load entry stack : Word) (index : Byte) (s : State),
    let t := startSubsong stub load entry stack index s
    t.cpu.pc = stub ∧ t.cpu.sp = stack ∧ t.hl = BitVec.ofInt 16 (load.toNat - 0x70) ∧ t.cpu.a = index ∧
    RegsSameBut [.a, .h, .l] s t ∧ t.cpu.f = s.cpu.f ∧ ControlSame s t ∧ OutsideSame s t ∧ t.cycles = s.cycles

/-! ### The sound unit -/

/-- 61_sound.md R431-R435, R443: the registers of channels 1 and 2, and the frequency, envelope and trigger
registers of every channel. -/
def Obligations.PulseRegisterWrites : Prop :=
  ∀ (s : Sound) (v : Byte),
    let n := v.toNat
    s.writeAction 0x10 v = { s with
      sweep := { s.sweep with period := n / 16 % 8, dir := v.getLsbD 3, shift := n % 8 } } ∧
    (∀ (p : Pulse), p.writeDutyLen v = { p with
      duty := BitVec.ofNat 2 (n / 64)
      dutyTc := (if n / 64 = 0 then 1 else if n / 64 = 1 then 2 else if n / 64 = 2 then 4 else 6)
      voice := { p.voice with len := 64 - n % 64 } }) ∧
    s.writeAction 0x11 v = { s with ch1 := s.ch1.writeDutyLen v } ∧
    s.writeAction 0x16 v = { s with ch2 := s.ch2.writeDutyLen v } ∧
    SharedRegisterWrites s v

/-- 61_sound.md R433-R443: the registers of channels 3 and 4, the routing and the sound enable; NR50, the
unused addresses and the wave RAM have no action; every byte written is stored and read back. The output of
channel 3 follows its enable, its volume code and the wave RAM as it stands. -/
def Obligations.WaveNoiseRegisterWrites : Prop :=
  ∀ (s : Sound) (v : Byte),
    let n := v.toNat
    s.writeAction 0x1A v = { s with ch3 := { s.ch3 with enable := v.getLsbD 7 } } ∧
    s.writeAction 0x1B v = { s with ch3 := { s.ch3 with voice := { s.ch3.voice with len := 256 - n } } } ∧
    s.writeAction 0x1C v = { s with ch3 := { s.ch3 with
      voice := { s.ch3.voice with volInit := n / 32 % 4, volume := n / 32 % 4 } } } ∧
    s.writeAction 0x20 v = { s with ch4 := { s.ch4 with voice := { s.ch4.voice with len := 64 - n % 64 } } } ∧
    s.writeAction 0x22 v = { s with ch4 := { s.ch4 with
      s := n / 16, narrow := v.getLsbD 3, r := n % 8
      voice := { s.ch4.voice with divTc := (if n % 8 = 0 then 8 else 16 * (n % 8)) * 2 ^ (n / 16) } } } ∧
    SharedRegisterWrites s v ∧
    s.writeAction 0x25 v = { s with
      ch1 := { s.ch1 with voice := { s.ch1.voice with right := v.getLsbD 0, left := v.getLsbD 4 } }
      ch2 := { s.ch2 with voice := { s.ch2.voice with right := v.getLsbD 1, left := v.getLsbD 5 } }
      ch3 := { s.ch3 with voice := { s.ch3.voice with right := v.getLsbD 2, left := v.getLsbD 6 } }
      ch4 := { s.ch4 with voice := { s.ch4.voice with right := v.getLsbD 3, left := v.getLsbD 7 } } } ∧
    (128 ≤ n → s.writeAction 0x26 v = s) ∧
    (n < 128 → s.writeAction 0x26 v = { s with
      ch1 := { s.ch1 with voice := { s.ch1.voice with running := false } }
      ch2 := { s.ch2 with voice := { s.ch2.voice with running := false } }
      ch3 := { s.ch3 with voice := { s.ch3.voice with running := false } }
      ch4 := { s.ch4 with voice := { s.ch4.voice with running := false } } }) ∧
    (∀ a : Nat, a ∈ [0x15, 0x1F, 0x24] ∨ (0x27 ≤ a ∧ a ≤ 0x3F) → s.writeAction a v = s) ∧
    (∀ (p : Wave) (regs : Memory),
      (p.enable = false → p.output regs = 0) ∧
      (p.voice.running = true → p.enable = true →
        let b := (Memory.read regs (0x30 + p.wavePos / 2)).toNat
        let sample := if p.wavePos % 2 = 0 then b / 16 else b % 16
        p.output regs = if p.voice.volume = 0 then 0 else ((sample / 2 ^ (p.voice.volume - 1) : Nat) : Int))) ∧
    (∀ (m : State) (a : Word), IsSoundReg a → (m.memWrite a v).peek a = v)

/-- 61_sound.md R450-R453, R471: one tick. The length step comes first, the envelope step works on what it
left, then the sweep and the fade. -/
def Obligations.TickRules : Prop :=
  ∀ (s : Sound) (fade : Int),
    let t := s.tick fade
    (∀ (p : Pulse), ∃ c, LengthRule p.voice c ∧ EnvelopeRule p.env p.tick.env c.volume p.tick.voice.volume ∧
      p.tick = { p with voice := { c with volume := p.tick.voice.volume }, env := p.tick.env }) ∧
    t.ch2 = s.ch2.tick ∧
    LengthRule s.ch3.voice t.ch3.voice ∧ t.ch3 = { s.ch3 with voice := t.ch3.voice } ∧
    (∃ c, LengthRule s.ch4.voice c ∧ EnvelopeRule s.ch4.env t.ch4.env c.volume t.ch4.voice.volume ∧
      t.ch4 = { s.ch4 with voice := { c with volume := t.ch4.voice.volume }, env := t.ch4.env }) ∧
    (s.sweep.period = 0 → t.sweep = s.sweep ∧ t.ch1 = s.ch1.tick) ∧
    (0 < s.sweep.period → 1 < s.sweep.ctr →
      t.sweep = { s.sweep with ctr := s.sweep.ctr - 1 } ∧ t.ch1 = s.ch1.tick) ∧
    (0 < s.sweep.period → s.sweep.ctr ≤ 1 →
      let d := s.ch1.voice.divTc / 2 ^ s.sweep.shift
      let n := if s.sweep.dir then s.ch1.voice.divTc + d else s.ch1.voice.divTc - d
      t.sweep = { s.sweep with ctr := s.sweep.period * 2 } ∧
      t.ch1 = { s.ch1.tick with voice := { s.ch1.tick.voice with
        divTc := if 0 < s.sweep.shift ∧ n ≤ 2048 then n else s.ch1.voice.divTc } }) ∧
    t.masterVolume = max 0 (min (s.masterVolume + fade) 65536) ∧
    t = { s with ch1 := t.ch1, ch2 := t.ch2, ch3 := t.ch3, ch4 := t.ch4, sweep := t.sweep,
                 masterVolume := t.masterVolume }

/-- 61_sound.md R447: each divider counts down and on zero reloads and moves its channel on, whether or not
the channel runs; the premise is R420's range of `div_ctr`. -/
def Obligations.DividerRules : Prop :=
  ∀ (s : Sound), 1 ≤ s.ch1.voice.divCtr → 1 ≤ s.ch2.voice.divCtr → 1 ≤ s.ch3.voice.divCtr →
    1 ≤ s.ch4.voice.divCtr →
    let t := s.divide
    (∀ (p q : Pulse), (p, q) ∈ [(s.ch1, t.ch1), (s.ch2, t.ch2)] →
      (1 < p.voice.divCtr → q = { p with voice := { p.voice with divCtr := p.voice.divCtr - 1 } }) ∧
      (p.voice.divCtr = 1 → q = { p with
        voice := { p.voice with divCtr := 4 * p.voice.divTc }, dutyPos := (p.dutyPos + 1) % 8 })) ∧
    (1 < s.ch3.voice.divCtr →
      t.ch3 = { s.ch3 with voice := { s.ch3.voice with divCtr := s.ch3.voice.divCtr - 1 } }) ∧
    (s.ch3.voice.divCtr = 1 → t.ch3 = { s.ch3 with
      voice := { s.ch3.voice with divCtr := 2 * s.ch3.voice.divTc }, wavePos := (s.ch3.wavePos + 1) % 32 }) ∧
    (1 < s.ch4.voice.divCtr →
      t.ch4 = { s.ch4 with voice := { s.ch4.voice with divCtr := s.ch4.voice.divCtr - 1 } }) ∧
    (s.ch4.voice.divCtr = 1 → t.ch4 = { s.ch4 with
      voice := { s.ch4.voice with divCtr := s.ch4.voice.divTc }, lfsr := lfsrNext s.ch4.narrow s.ch4.lfsr }) ∧
    t = { s with ch1 := t.ch1, ch2 := t.ch2, ch3 := t.ch3, ch4 := t.ch4 }

/-- 61_sound.md R456, 90_conflicts.md C1: one LFSR step, bit by bit: bit 0 is the XNOR of bits 14 and 13, every other bit moves
up, and in narrow mode bit 8 is the feedback too; the output bit is the inverted top bit of the new value. -/
def Obligations.LfsrStep : Prop :=
  ∀ (narrow : Bool) (x : BitVec 15),
    let fb := !(xor (x.getLsbD 14) (x.getLsbD 13))
    (lfsrNext narrow x).getLsbD 0 = fb ∧
    (∀ k, 1 ≤ k → k < 15 → (lfsrNext narrow x).getLsbD k =
      if narrow && k == 8 then fb else x.getLsbD (k - 1)) ∧
    noiseBit (lfsrNext narrow x) = !((lfsrNext narrow x).getLsbD 14)

/-- 61_sound.md R457: from zero, wide mode comes back to zero after exactly 32767 steps; narrow mode enters
a cycle of exactly 127 states and never comes back; the first 32 output bits of each mode. -/
def Obligations.LfsrPeriods : Prop :=
  lfsrRun false 32767 = 0#15 ∧ (∀ n, 0 < n → n < 32767 → lfsrRun false n ≠ 0#15) ∧
  lfsrRun true 1 = 0x0101#15 ∧ (∀ n, 1 ≤ n → lfsrRun true (n + 127) = lfsrRun true n) ∧
  (∀ n, 0 < n → n < 127 → lfsrRun true (1 + n) ≠ lfsrRun true 1) ∧ (∀ n, 0 < n → lfsrRun true n ≠ 0#15) ∧
  lfsrBits false 32 = 0xFFFC0008 ∧ lfsrBits true 32 = 0xFC0830A3

/-- 61_sound.md R460, R442: the output of each channel. -/
def Obligations.ChannelOutputs : Prop :=
  ∀ (s : Sound),
    (∀ p : Pulse, p.output = if p.voice.running = false then 0
      else if p.dutyPos < p.dutyTc then (p.voice.volume : Int) else -(p.voice.volume : Int)) ∧
    (s.ch3.output s.regs =
      if s.ch3.voice.running = false ∨ s.ch3.enable = false ∨ s.ch3.voice.volume = 0 then 0
      else
        let b := (Memory.read s.regs (0x30 + s.ch3.wavePos / 2)).toNat
        let nibble := if s.ch3.wavePos % 2 = 0 then b / 16 else b % 16
        ((nibble / 2 ^ (s.ch3.voice.volume - 1) : Nat) : Int)) ∧
    (∀ p : Noise, p.output = if p.voice.running = false then 0
      else if p.lfsr.getLsbD 14 then -(p.voice.volume : Int) else (p.voice.volume : Int))

/-- 61_sound.md R470: each side of the mix is the sum of the levels of the channels routed to it and not
muted, times 512 and the master volume, divided by 65536 toward zero; under the sound unit's invariant it
fits 16 bits. -/
def Obligations.MixFitsSixteenBits : Prop :=
  (∀ (s : Sound) (h : HostSide),
    let part (routed muted : Bool) (level : Int) : Int := if routed = true ∧ muted = false then level else 0
    let sumL := part s.ch1.voice.left h.mute1 s.ch1.voice.level + part s.ch2.voice.left h.mute2 s.ch2.voice.level +
      part s.ch3.voice.left h.mute3 s.ch3.voice.level + part s.ch4.voice.left h.mute4 s.ch4.voice.level
    let sumR := part s.ch1.voice.right h.mute1 s.ch1.voice.level + part s.ch2.voice.right h.mute2 s.ch2.voice.level +
      part s.ch3.voice.right h.mute3 s.ch3.voice.level + part s.ch4.voice.right h.mute4 s.ch4.voice.level
    s.mixL h = Int.tdiv (sumL * 512 * s.masterVolume) 65536 ∧
    s.mixR h = Int.tdiv (sumR * 512 * s.masterVolume) 65536) ∧
  (∀ (s : Sound) (h : HostSide), SoundInv s →
    -30720 ≤ s.mixL h ∧ s.mixL h ≤ 30720 ∧ -30720 ≤ s.mixR h ∧ s.mixR h ≤ 30720)

/-- 61_sound.md R446: the order of one sound cycle with a configured resampler: the tick when it is due, the
dividers, each channel's output into its level, the injection of the change of the mix, the position. The premise
on `seq_ctr` is R421's range. -/
def Obligations.SoundCycleOrder : Prop :=
  ∀ (s : Sound) (h : HostSide) (rate frames : Nat),
    h.resampler = some (rate, frames) → 1 ≤ s.seqCtr →
    let u := if s.seqCtr = 1 then Sound.tick { s with seqCtr := 16384 } h.masterFade
             else { s with seqCtr := s.seqCtr - 1 }
    let d := u.divide
    let w := { d with
      ch1 := { d.ch1 with voice := { d.ch1.voice with level := d.ch1.output } }
      ch2 := { d.ch2 with voice := { d.ch2.voice with level := d.ch2.output } }
      ch3 := { d.ch3 with voice := { d.ch3.voice with level := d.ch3.output d.regs } }
      ch4 := { d.ch4 with voice := { d.ch4.voice with level := d.ch4.output } } }
    let x := if w.mixL h ≠ w.lastL ∨ w.mixR h ≠ w.lastR then
               w.inject h.impulseTable (w.mixL h - w.lastL) (w.mixR h - w.lastR) else w
    let y := { x with lastL := w.mixL h, lastR := w.mixR h, pos := x.pos + rate }
    s.cycle h = if frames ≤ y.pos / 4194304 then (y.flush frames, some (y.filled frames)) else (y, none)

/-- 61_sound.md R480, R490, R491: an injection adds `delta` times the tap of the phase's row at each of the
twelve entries from the position's sample up, and changes nothing else, for every table of the required property;
the spec's table, which `State.reset` holds, has it. The buffers have the sizes `set_output_buffer` gives them. -/
def Obligations.InjectAddsKernelRow : Prop :=
  KernelOk State.reset.host.impulseTable ∧
  (∀ (s : State) (frames : Nat), setOutputBuffer frames s = { s with
    host := { s.host with outFrames := some frames }
    snd := { s.snd with
      impL := List.replicate (frames + 12) 0, impR := List.replicate (frames + 12) 0
      out := List.replicate (2 * frames) 0, pos := 0 } }) ∧
  (∀ (s : Sound) (table : List (List Int)) (frames : Nat) (dl dr : Int), KernelOk table → BuffersFit frames s →
    let t := s.inject table dl dr
    let i := s.pos / 4194304
    let row := table.getD (s.pos % 4194304 * 128 / 4194304) []
    t = { s with impL := t.impL, impR := t.impR } ∧ row.length = 12 ∧ row.sum = 256 ∧
    t.impL.length = s.impL.length ∧ t.impR.length = s.impR.length ∧ i < frames ∧
    (∀ k, k < 12 → t.impL.getD (i + k) 0 = s.impL.getD (i + k) 0 + dl * row.getD k 0 ∧
      t.impR.getD (i + k) 0 = s.impR.getD (i + k) 0 + dr * row.getD k 0) ∧
    (∀ j, j < i ∨ i + 12 ≤ j → t.impL.getD j 0 = s.impL.getD j 0 ∧ t.impR.getD j 0 = s.impR.getD j 0))

/-- 61_sound.md R492, R493: frame `j` of a filled buffer is the running sum up to entry `j`, divided by 256
rounding down and saturated to 16 bits; the flush keeps the sums, carries the twelve last entries to the
front, clears the rest and the PCM buffer, takes the frames off the position, and hands the filled buffer to
the callback where one is registered. Where the level is conserved and no part of it waits in the twelve carried
entries, the sums end at 256 times the last level and the last frame is that level. -/
def Obligations.FlushIntegrates : Prop :=
  ∀ (s : Sound) (frames : Nat), s.impL.length = frames + 12 → s.impR.length = frames + 12 →
    let out := s.filled frames
    let t := s.flush frames
    out.length = 2 * frames ∧
    (∀ j, j < frames →
      out.getD (2 * j) 0 = max (-32768) (min ((s.accL + (s.impL.take (j + 1)).sum) / 256) 32767) ∧
      out.getD (2 * j + 1) 0 = max (-32768) (min ((s.accR + (s.impR.take (j + 1)).sum) / 256) 32767)) ∧
    t.accL = s.accL + (s.impL.take frames).sum ∧ t.accR = s.accR + (s.impR.take frames).sum ∧
    t.impL = s.impL.drop frames ++ List.replicate frames 0 ∧
    t.impR = s.impR.drop frames ++ List.replicate frames 0 ∧
    t.out = List.replicate (2 * frames) 0 ∧ t.pos = s.pos - frames * 4194304 ∧
    t = { s with impL := t.impL, impR := t.impR, accL := t.accL, accR := t.accR, out := t.out, pos := t.pos } ∧
    (∀ (h : HostSide) (events : List HostEvent),
      flushEvents h (some out) events = if h.callback then .pcm out :: events else events) ∧
    (LevelConserved s → (s.impL.drop frames).sum = 0 → (s.impR.drop frames).sum = 0 →
      t.accL = 256 * s.lastL ∧ t.accR = 256 * s.lastR ∧
      (0 < frames →
        out.getD (2 * (frames - 1)) 0 = max (-32768) (min s.lastL 32767) ∧
        out.getD (2 * (frames - 1) + 1) 0 = max (-32768) (min s.lastR 32767)))

/-! ### Invariants and whole-machine rules -/

/-- Every invariant holds after reset. -/
def Obligations.ResetMeetsInvariants : Prop :=
  CoreInv State.reset ∧ SoundInv State.reset.snd ∧ LevelConserved State.reset.snd ∧
  KernelOk State.reset.host.impulseTable

/-- Every step keeps F's low nibble zero, the memories canonical and inside their ranges, the bank inside the image,
the timer period that of TMA and TAC, and the vblank countdown in its range (10_state.md R35, R45, R46, 20_memory.md
R79, 60_exceptions.md R370, R371); and no step changes a byte of the ROM image, the number of banks
(20_memory.md R81) or an input of the instance: `DAA_MODE`, `IMPULSE_TABLE`, the rate, the buffer size, the mutes
and the fade (00_scope.md R9). -/
def Obligations.StepKeepsCoreInvariant : Prop :=
  (∀ (s t : State), CoreInv s → step s = .next t → CoreInv t) ∧
  (∀ (s t : State), step s = .next t → t.bus.rom = s.bus.rom ∧ t.bus.bankCount = s.bus.bankCount ∧
    t.host = { s.host with events := t.host.events, bankClampWarned := t.host.bankClampWarned })

/-- Every step keeps every field of the sound unit in its range (61_sound.md R420, R421, R424). -/
def Obligations.StepKeepsSoundInvariant : Prop :=
  ∀ (s t : State), SoundInv s.snd → step s = .next t → SoundInv t.snd

/-- With a configured resampler whose table and buffers fit, every step keeps them fitting and conserves the level:
what was integrated and what waits in the impulse buffer make 256 times the last mixed level
(61_sound.md R485, R491, R492, R493). -/
def Obligations.StepConservesLevel : Prop :=
  ∀ (s t : State) (rate frames : Nat), s.host.resampler = some (rate, frames) →
    KernelOk s.host.impulseTable → BuffersFit frames s.snd → LevelConserved s.snd → step s = .next t →
    t.host.resampler = some (rate, frames) ∧ KernelOk t.host.impulseTable ∧ BuffersFit frames t.snd ∧
    LevelConserved t.snd

/-- The host's operations keep the invariants; the buffer they set makes the buffers fit, and with a rate below the
clock it configures the resampler
(61_sound.md R485, R491, 70_reset_and_hazards.md R520, R522). -/
def Obligations.HostOperationsKeepInvariants : Prop :=
  ∀ (s : State), CoreInv s → SoundInv s.snd →
    (∀ rom size t, hostInit rom size s = .next t → CoreInv t ∧ SoundInv t.snd ∧ LevelConserved t.snd) ∧
    (∀ stub load entry stack index,
      CoreInv (startSubsong stub load entry stack index s) ∧
      SoundInv (startSubsong stub load entry stack index s).snd) ∧
    (∀ frames, CoreInv (setOutputBuffer frames s) ∧ SoundInv (setOutputBuffer frames s).snd ∧
      (0 < frames → BuffersFit frames (setOutputBuffer frames s).snd)) ∧
    (∀ rate, CoreInv (setSampleRate rate s) ∧ SoundInv (setSampleRate rate s).snd) ∧
    (∀ rate frames, 0 < rate → rate < 4194304 → 0 < frames →
      (setSampleRate rate (setOutputBuffer frames s)).host.resampler = some (rate, frames)) ∧
    (∀ mode table, CoreInv (configure mode table s) ∧ (configure mode table s).snd = s.snd ∧
      (configure mode table s).host.daaMode = mode ∧ (configure mode table s).host.impulseTable = table)

/-- The CPU, the memories, the countdowns and the session cycles do not depend on the host's parameters but
`DAA_MODE`, on what was sent to the host, or on the channels, the resampler and the master volume: two states that agree
on the first after equal draws step to states that agree again (61_sound.md R421, 60_exceptions.md R385). -/
def Obligations.CpuBlindToHostAndSound : Prop :=
  ∀ (s s' t : State),
    s'.cpu = s.cpu → s'.bus = s.bus → s'.timers = s.timers → s'.snd.regs = s.snd.regs →
    s'.sessionCycles = s.sessionCycles → s'.draws = s.draws → s'.host.daaMode = s.host.daaMode →
    step s = .next t →
    ∃ t', step s' = .next t' ∧ t'.cpu = t.cpu ∧ t'.bus = t.bus ∧ t'.timers = t.timers ∧
      t'.snd.regs = t.snd.regs ∧ t'.sessionCycles = t.sessionCycles ∧ t'.draws = t.draws ∧
      t'.host.daaMode = t.host.daaMode ∧ t'.cycles = t.cycles

/-- 60_exceptions.md R380, R381, R382: with a configured resampler a platform step runs machine steps. It answers -1
only where they reach a stopped CPU, and leaves that state; else it stops at the first step that reaches the target,
overshoots it by less than that step, answers the cycles added to the session, and leaves that step's state, which is
not stopped, with the snapshot of R385 refreshed. With `ms = 0` no step runs. Without a resampler (log 3), and where
it meets a DAA in an instance that refuses it, it has no meaning. -/
def Obligations.PlatformStepMeetsTarget : Prop :=
  (∀ (s : State),
    let view (mute : Bool) (c : Voice) : ChannelView :=
      ⟨mute, c.volume, c.divTc, c.running && decide (0 < c.volume) && !mute⟩
    refreshSnapshot s = { s with host := { s.host with snapshot :=
      ⟨view s.host.mute1 s.snd.ch1.voice, view s.host.mute2 s.snd.ch2.voice,
       view s.host.mute3 s.snd.ch3.voice, view s.host.mute4 s.snd.ch4.voice⟩ } }) ∧
  ∀ (ms : Nat) (s : State),
    let target := ms * 4194304 / 1000
    (s.host.resampler = none → platformStep ms s = .refused .resamplerNotConfigured) ∧
    (∀ cfg, s.host.resampler = some cfg →
      (0 < ms ∧ s.cpu.stopReason = none ∧ s.host.daaMode = .refuse ∧ platformStep ms s = .refused .daaRefused) ∨
      ∃ r, platformStep ms s = .next r ∧
      (r.result = -1 → Reaches s r.state ∧ r.state.cpu.stopReason.isSome = true) ∧
      (r.result ≠ -1 → ∃ u, Reaches s u ∧ r.state = refreshSnapshot u ∧
        r.result = ((u.sessionCycles - s.sessionCycles : Nat) : Int) ∧
        s.sessionCycles ≤ u.sessionCycles ∧ (target : Int) ≤ r.result ∧
        (0 < ms → u.cpu.stopReason = none ∧ r.result < (target : Int) + 24 ∧
          ∃ t, Reaches s t ∧ step t = .next u ∧ t.sessionCycles - s.sessionCycles < target)) ∧
      (ms = 0 → r.result = 0 ∧ r.state = refreshSnapshot s) ∧
      (s.cpu.stopReason.isSome = true → 0 < ms → r.result = -1 ∧ r.state = s))

end
end

