-- ==== Sys2Proof/Laws/Sound.lean ====
section
/-! SUPPORT. The sound unit: the fields of a register byte, the LFSR, sums of taps, and an induction over the
cycles of an advance. -/

namespace Sys2Proof.Machine

open Sys2Proof

/-! ### Fields of a byte -/

theorem byte_bit7 (v : Byte) : v.getLsbD 7 = decide (128 ≤ v.toNat) := by
  have h : ∀ n : Fin 256, (BitVec.ofFin n : Byte).getLsbD 7 = decide (128 ≤ (BitVec.ofFin n : Byte).toNat) := by
    intro n
    fin_cases n <;> rfl
  exact h v.toFin

theorem field_zero (v : Byte) (n : Nat) : field v 0 n = v.toNat % 2 ^ n := by simp [field]

theorem field_high (v : Byte) : field v 4 4 = v.toNat / 16 := by
  have := v.isLt
  simp only [field]
  omega

theorem dutyThreshold_eq (v : Byte) : dutyThreshold (v.extractLsb' 6 2) =
    if v.toNat / 64 = 0 then 1 else if v.toNat / 64 = 1 then 2 else if v.toNat / 64 = 2 then 4 else 6 := by
  have h : ∀ n : Fin 256, dutyThreshold ((BitVec.ofFin n : Byte).extractLsb' 6 2) =
      if (BitVec.ofFin n : Byte).toNat / 64 = 0 then 1 else if (BitVec.ofFin n : Byte).toNat / 64 = 1 then 2
      else if (BitVec.ofFin n : Byte).toNat / 64 = 2 then 4 else 6 := by
    intro n
    fin_cases n <;> rfl
  exact h v.toFin

theorem duty_eq (v : Byte) : v.extractLsb' 6 2 = BitVec.ofNat 2 (v.toNat / 64) := by
  apply BitVec.eq_of_toNat_eq
  simp [Nat.shiftRight_eq_div_pow]

theorem freqLow_toNat (f : BitVec 11) (v : Byte) : (freqLow f v).toNat = f.toNat / 256 * 256 + v.toNat := by
  have e : freqLow f v = (f >>> 8 <<< 8) ||| v.setWidth 11 := by
    unfold freqLow
    congr 1
    apply BitVec.eq_of_getLsbD_eq
    intro i hi
    interval_cases i <;> simp
  have hv := v.isLt
  have hf := f.isLt
  rw [e, BitVec.toNat_or]
  have a : (f >>> 8 <<< 8).toNat = 2 ^ 8 * (f.toNat / 256) := by
    simp [Nat.shiftRight_eq_div_pow, Nat.shiftLeft_eq]
    omega
  have b : (v.setWidth 11).toNat = v.toNat := by simp; omega
  rw [a, b, ← Nat.two_pow_add_eq_or_of_lt hv]
  omega

theorem freqHigh_toNat (f : BitVec 11) (v : Byte) :
    (freqHigh f v).toNat = v.toNat % 8 * 256 + f.toNat % 256 := by
  have hf := f.isLt
  unfold freqHigh
  rw [BitVec.toNat_or]
  have a : (v.setWidth 11 <<< 8).toNat = 2 ^ 8 * (v.toNat % 8) := by
    simp [Nat.shiftLeft_eq]
    omega
  have b : (f &&& 0x0FF#11).toNat = f.toNat % 256 := by
    rw [BitVec.toNat_and]
    exact Nat.and_two_pow_sub_one_eq_mod f.toNat 8
  rw [a, b, Nat.or_comm, ← Nat.two_pow_add_eq_or_of_lt (by omega)]
  omega

/-! ### The kernel and the impulse buffer -/

/-- The spec's table has the required property (61_sound.md R490, R499). -/
theorem kernelOk_default : KernelOk Config.impulseTable := by decide +kernel

/-- Every row a phase selects has twelve taps and sums to 256. -/
theorem KernelOk.row {table : List (List Int)} (k : KernelOk table) {p : Nat} (hp : p < 128) :
    (impulseRow table p).length = 12 ∧ (impulseRow table p).sum = 256 := by
  have hp : p < table.length := by rw [k.1]; exact hp
  unfold impulseRow
  rw [List.getD_eq_getElem _ _ hp]
  exact k.2 _ (List.getElem_mem hp)

theorem samplePhase_lt (pos : Nat) : samplePhase pos < 128 := by
  unfold samplePhase Config.clk Config.impulsePhases
  omega

theorem addTaps_length (i : Nat) (d : Int) (taps buf : List Int) :
    (addTaps i d taps buf).length = buf.length := by
  induction buf generalizing i taps with
  | nil => cases i <;> cases taps <;> rfl
  | cons x buf ih => cases i <;> cases taps <;> simp [addTaps, ih]

/-- Where the taps fit, each entry gains `d` times its tap. -/
theorem addTaps_getD (i : Nat) (d : Int) (taps buf : List Int) (h : i + taps.length ≤ buf.length) (j : Nat) :
    (addTaps i d taps buf).getD j 0 = buf.getD j 0 + (if i ≤ j then d * taps.getD (j - i) 0 else 0) := by
  induction buf generalizing i taps j with
  | nil =>
    have : taps = [] := List.length_eq_zero_iff.mp (by rw [List.length_nil] at h; omega)
    subst this
    cases i <;> simp [addTaps]
  | cons x buf ih =>
    cases i with
    | succ i =>
      cases j with
      | zero => simp [addTaps]
      | succ j =>
        have := ih i taps (by rw [List.length_cons] at h; omega) j
        simp only [addTaps, List.getD_cons_succ, this, Nat.add_le_add_iff_right, Nat.add_sub_add_right]
    | zero =>
      cases taps with
      | nil => simp [addTaps]
      | cons t taps =>
        cases j with
        | zero => simp [addTaps]
        | succ j =>
          have := ih 0 taps (by rw [List.length_cons, List.length_cons] at h; omega) j
          simp only [addTaps, List.getD_cons_succ, this]
          simp

/-- Where the taps fit, the buffer's sum gains `d` times theirs. -/
theorem addTaps_sum (i : Nat) (d : Int) (taps buf : List Int) (h : i + taps.length ≤ buf.length) :
    (addTaps i d taps buf).sum = buf.sum + d * taps.sum := by
  induction buf generalizing i taps with
  | nil =>
    have : taps = [] := List.length_eq_zero_iff.mp (by rw [List.length_nil] at h; omega)
    subst this
    cases i <;> simp [addTaps]
  | cons x buf ih =>
    cases i with
    | succ i =>
      have := ih i taps (by rw [List.length_cons] at h; omega)
      simp only [addTaps, List.sum_cons, this]
      ring
    | zero =>
      cases taps with
      | nil => simp [addTaps]
      | cons t taps =>
        have := ih 0 taps (by rw [List.length_cons, List.length_cons] at h; omega)
        simp only [addTaps, List.sum_cons, this]
        ring

/-! ### Integration -/

theorem integrate_acc (a : Int) (l : List Int) : (integrate a l).2 = a + l.sum := by
  induction l generalizing a with
  | nil => simp [integrate]
  | cons x l ih =>
    simp only [integrate, ih, List.sum_cons]
    ring

theorem integrate_length (a : Int) (l : List Int) : (integrate a l).1.length = l.length := by
  induction l generalizing a with
  | nil => simp [integrate]
  | cons x l ih => simp [integrate, ih]

theorem integrate_getD (a : Int) (l : List Int) (j : Nat) (h : j < l.length) :
    (integrate a l).1.getD j 0 = pcmSample (a + (l.take (j + 1)).sum) := by
  induction l generalizing a j with
  | nil => simp at h
  | cons x l ih =>
    cases j with
    | zero => simp [integrate]
    | succ j =>
      simp only [integrate, List.getD_cons_succ, List.take_succ_cons, List.sum_cons]
      rw [ih _ _ (by simpa using h), Int.add_assoc]

theorem interleave_getD (a b : List Int) (h : a.length = b.length) :
    (interleave a b).length = 2 * a.length ∧
    ∀ j, (interleave a b).getD (2 * j) 0 = a.getD j 0 ∧ (interleave a b).getD (2 * j + 1) 0 = b.getD j 0 := by
  induction a generalizing b with
  | nil => cases b <;> simp [interleave] at *
  | cons x a ih =>
    cases b with
    | nil => simp at h
    | cons y b =>
      obtain ⟨h1, h2⟩ := ih b (by simpa using h)
      refine ⟨by simp only [interleave, List.length_cons, h1]; omega, fun j => ?_⟩
      cases j with
      | zero => simp [interleave]
      | succ j => exact h2 j

theorem pcmSample_eq (x : Int) : pcmSample x = max (-32768) (min (x / 256) 32767) := by
  unfold pcmSample sat16 Config.impulseUnit
  rw [Int.fdiv_eq_ediv_of_nonneg _ (by omega)]

/-! ### The advance -/

/-- The injection changes the impulse buffers and the mixed levels alone. -/
theorem Sound.emit_eq (s : Sound) (h : HostSide) (l r : Int) : ∃ bl br,
    s.emit h l r = { s with impL := bl, impR := br, lastL := l, lastR := r } := by
  unfold Sound.emit
  simp only
  split
  · exact ⟨_, _, rfl⟩
  · exact ⟨s.impL, s.impR, rfl⟩

/-- The position and a flush change the resampler's state alone. -/
theorem Sound.advancePosition_eq (s : Sound) (cfg : Option (Nat × Nat)) : ∃ pos bl br al ar out,
    (s.advancePosition cfg).1 =
      { s with pos := pos, impL := bl, impR := br, accL := al, accR := ar, out := out } := by
  unfold Sound.advancePosition
  split
  · exact ⟨s.pos, s.impL, s.impR, s.accL, s.accR, s.out, rfl⟩
  · simp only
    split
    · exact ⟨_, _, _, _, _, _, rfl⟩
    · exact ⟨_, s.impL, s.impR, s.accL, s.accR, s.out, rfl⟩

/-- The channels after one cycle: the sequencer's part, the dividers', the levels'. -/
theorem Sound.cycle_eq (s : Sound) (h : HostSide) : ∃ l r pos bl br al ar out,
    (s.cycle h).1 = { (s.sequence h.masterFade).divide.levels with
      lastL := l, lastR := r, pos := pos, impL := bl, impR := br, accL := al, accR := ar, out := out } := by
  unfold Sound.cycle Sound.cycleBody
  simp only
  obtain ⟨bl, br, e⟩ := Sound.emit_eq (s.sequence h.masterFade).divide.levels h
    ((s.sequence h.masterFade).divide.levels.mixL h) ((s.sequence h.masterFade).divide.levels.mixR h)
  rw [e]
  obtain ⟨pos, bl', br', al, ar, out, e'⟩ := Sound.advancePosition_eq
    { (s.sequence h.masterFade).divide.levels with
      impL := bl, impR := br, lastL := (s.sequence h.masterFade).divide.levels.mixL h,
      lastR := (s.sequence h.masterFade).divide.levels.mixR h } h.resampler
  rw [e']
  exact ⟨_, _, pos, bl', br', al, ar, out, rfl⟩

theorem Sound.sequence_regs (s : Sound) (fade : Int) : (s.sequence fade).regs = s.regs := by
  unfold Sound.sequence
  split <;> rfl

/-- A cycle leaves the byte store alone. -/
theorem Sound.cycle_regs (s : Sound) (h : HostSide) : (s.cycle h).1.regs = s.regs := by
  obtain ⟨l, r, pos, bl, br, al, ar, out, e⟩ := s.cycle_eq h
  rw [e]
  exact s.sequence_regs h.masterFade

/-- What every cycle keeps, an advance keeps. -/
theorem advance_keeps {P : Sound → Prop} {h : HostSide} (step : ∀ s, P s → P (s.cycle h).1) (n : Nat) :
    ∀ (s : Sound) (events : List HostEvent), P s → P (Sound.advance h n s events).1 := by
  induction n with
  | zero => exact fun _ _ hs => hs
  | succ n ih => exact fun s _ hs => ih _ _ (step s hs)

/-- A cycle does not read what was sent to the host. -/
theorem Sound.cycle_events (s : Sound) (h : HostSide) (e : List HostEvent) :
    s.cycle { h with events := e } = s.cycle h := rfl

/-- One cycle more of an advance is one cycle after it (61_sound.md R445). -/
theorem Sound.advance_succ (h : HostSide) (n : Nat) (s : Sound) (events : List HostEvent) :
    Sound.advance h (n + 1) s events =
      (((Sound.advance h n s events).1.cycle h).1,
       flushEvents h ((Sound.advance h n s events).1.cycle h).2 (Sound.advance h n s events).2) := by
  induction n generalizing s events with
  | zero => rfl
  | succ n ih =>
    rw [Sound.advance, ih]
    rfl

end Sys2Proof.Machine
end

