-- ==== Sys2Proof/Laws/Memory.lean ====
section
/-! SUPPORT. Reading after writing, and that every memory operation keeps the canonical form. -/

namespace Sys2Proof.Machine

open Sys2Proof

/-! ### Reading -/

theorem Memory.read_erase_same (m : Memory) (a : Nat) : Memory.read (Memory.erase m a) a = Config.unlisted := by
  induction m with
  | nil => rfl
  | cons c m ih =>
    obtain ⟨k, v⟩ := c
    by_cases h : k = a <;> simp_all [Memory.erase, Memory.read]

theorem Memory.read_erase_other (m : Memory) {a b : Nat} (h : b ≠ a) :
    Memory.read (Memory.erase m a) b = Memory.read m b := by
  induction m with
  | nil => rfl
  | cons c m ih =>
    obtain ⟨k, v⟩ := c
    by_cases hk : k = a
    · subst hk; simp_all [Memory.erase, Memory.read, Ne.symm h]
    · by_cases hb : k = b <;> simp_all [Memory.erase, Memory.read]

theorem Memory.read_insert_same (m : Memory) (a : Nat) (v : Byte) (h : ∀ c ∈ m, c.1 ≠ a) :
    Memory.read (Memory.insert m a v) a = v := by
  induction m with
  | nil => simp [Memory.insert, Memory.read]
  | cons c m ih =>
    obtain ⟨k, w⟩ := c
    have hk : k ≠ a := h (k, w) (by simp)
    by_cases hlt : a < k
    · simp [Memory.insert, Memory.read, hlt]
    · simp [Memory.insert, Memory.read, hlt, hk, ih fun c hc => h c (by simp [hc])]

theorem Memory.read_insert_other (m : Memory) {a b : Nat} (v : Byte) (h : b ≠ a) :
    Memory.read (Memory.insert m a v) b = Memory.read m b := by
  induction m with
  | nil => simp [Memory.insert, Memory.read, Ne.symm h]
  | cons c m ih =>
    obtain ⟨k, w⟩ := c
    by_cases hlt : a < k
    · simp [Memory.insert, Memory.read, hlt, Ne.symm h]
    · simp [Memory.insert, Memory.read, hlt, ih]

theorem Memory.erase_keys (m : Memory) (a : Nat) : ∀ c ∈ Memory.erase m a, c.1 ≠ a := by
  intro c hc
  simpa using (List.mem_filter.mp hc).2

/-- A read after a write to the same key gives the value written. -/
@[simp] theorem Memory.read_write_same (m : Memory) (a : Nat) (v : Byte) :
    Memory.read (Memory.write m a v) a = v := by
  unfold Memory.write
  split
  · next h => rw [Memory.read_erase_same, h]
  · exact Memory.read_insert_same _ _ _ (Memory.erase_keys m a)

/-- A write leaves every other key alone. -/
theorem Memory.read_write_other (m : Memory) {a b : Nat} (v : Byte) (h : b ≠ a) :
    Memory.read (Memory.write m a v) b = Memory.read m b := by
  unfold Memory.write
  split
  · exact Memory.read_erase_other m h
  · rw [Memory.read_insert_other _ _ h, Memory.read_erase_other m h]

/-! ### The canonical form -/

theorem Memory.erase_wf {m : Memory} (h : Memory.wf m) (a : Nat) : Memory.wf (Memory.erase m a) :=
  ⟨h.1.filter _, fun c hc => h.2 c (List.mem_filter.mp hc).1⟩

theorem Memory.mem_insert {m : Memory} {a : Nat} {v : Byte} {c : Host.Cell} (h : c ∈ Memory.insert m a v) :
    c = (a, v) ∨ c ∈ m := by
  induction m with
  | nil => simpa [Memory.insert] using h
  | cons d m ih =>
    obtain ⟨k, w⟩ := d
    by_cases hlt : a < k
    · simpa [Memory.insert, hlt] using h
    · simp only [Memory.insert, hlt, if_false, List.mem_cons] at h ⊢
      rcases h with h | h
      · exact .inr (.inl h)
      · exact (ih h).imp_right .inr

theorem Memory.insert_wf {m : Memory} (h : Memory.wf m) {a : Nat} {v : Byte} (ha : ∀ c ∈ m, c.1 ≠ a)
    (hv : v ≠ Config.unlisted) : Memory.wf (Memory.insert m a v) := by
  refine ⟨?_, fun c hc => ?_⟩
  · obtain ⟨h, -⟩ := h
    induction m with
    | nil => simp [Memory.insert]
    | cons d m ih =>
      obtain ⟨k, w⟩ := d
      obtain ⟨hd, hm⟩ := List.pairwise_cons.mp h
      by_cases hlt : a < k
      · simp only [Memory.insert, hlt, if_true, List.pairwise_cons, List.mem_cons]
        refine ⟨fun c hc => ?_, hd, hm⟩
        rcases hc with rfl | hc
        · exact hlt
        · exact hlt.trans (hd c hc)
      · have hk : k ≠ a := ha (k, w) (by simp)
        simp only [Memory.insert, hlt, if_false, List.pairwise_cons]
        refine ⟨fun c hc => ?_, ih (fun c hc => ha c (by simp [hc])) hm⟩
        rcases Memory.mem_insert hc with rfl | hc
        · exact Nat.lt_of_le_of_ne (Nat.le_of_not_lt hlt) hk
        · exact hd c hc
  · rcases Memory.mem_insert hc with rfl | hc
    · exact hv
    · exact h.2 c hc

/-- Every write keeps the canonical form. -/
theorem Memory.write_wf {m : Memory} (h : Memory.wf m) (a : Nat) (v : Byte) : Memory.wf (Memory.write m a v) := by
  unfold Memory.write
  split
  · exact Memory.erase_wf h a
  · next hv => exact Memory.insert_wf (Memory.erase_wf h a) (Memory.erase_keys m a) hv

/-- What a write lists was listed before or is the cell written. -/
theorem Memory.mem_write {m : Memory} {a : Nat} {v : Byte} {c : Host.Cell} (h : c ∈ Memory.write m a v) :
    c = (a, v) ∨ c ∈ m := by
  unfold Memory.write at h
  split at h
  · exact .inr (List.mem_filter.mp h).1
  · exact (Memory.mem_insert h).imp_right fun h => (List.mem_filter.mp h).1

/-! ### A memory made of bytes -/

theorem Memory.ofBytes_keys (n : Nat) (bs : List Byte) : ∀ c ∈ Memory.ofBytes n bs, n ≤ c.1 := by
  induction bs generalizing n with
  | nil => simp [Memory.ofBytes]
  | cons b bs ih =>
    intro c hc
    unfold Memory.ofBytes at hc
    split at hc
    · exact (Nat.le_succ n).trans (ih (n + 1) c hc)
    · rcases List.mem_cons.mp hc with rfl | hc
      · exact Nat.le_refl n
      · exact (Nat.le_succ n).trans (ih (n + 1) c hc)

/-- The memory of a list of bytes is canonical. -/
theorem Memory.ofBytes_wf (n : Nat) (bs : List Byte) : Memory.wf (Memory.ofBytes n bs) := by
  induction bs generalizing n with
  | nil => simp [Memory.ofBytes, Memory.wf]
  | cons b bs ih =>
    unfold Memory.ofBytes
    split
    · exact ih (n + 1)
    · next hb =>
      refine ⟨List.pairwise_cons.mpr ⟨fun c hc => ?_, (ih (n + 1)).1⟩, fun c hc => ?_⟩
      · exact Memory.ofBytes_keys (n + 1) bs c hc
      · rcases List.mem_cons.mp hc with rfl | hc
        · exact hb
        · exact (ih (n + 1)).2 c hc

theorem Memory.read_below {m : Memory} {a : Nat} (h : ∀ c ∈ m, a < c.1) : Memory.read m a = Config.unlisted := by
  induction m with
  | nil => rfl
  | cons c m ih =>
    obtain ⟨k, v⟩ := c
    have hk : a < k := h (k, v) (by simp)
    simp [Memory.read, Nat.ne_of_gt hk, ih fun c hc => h c (by simp [hc])]

/-- The memory of a list of bytes reads as the list, and as an unlisted cell beyond it. -/
theorem Memory.read_ofBytes (n k : Nat) (bs : List Byte) :
    Memory.read (Memory.ofBytes n bs) (n + k) = bs.getD k Config.unlisted := by
  induction bs generalizing n k with
  | nil => simp [Memory.ofBytes, Memory.read]
  | cons b bs ih =>
    unfold Memory.ofBytes
    cases k with
    | zero =>
      split
      · next hb =>
        show Memory.read _ n = _
        rw [Memory.read_below fun c hc => Memory.ofBytes_keys (n + 1) bs c hc]
        simp [hb]
      · simp [Memory.read]
    | succ k =>
      have e : n + (k + 1) = n + 1 + k := by omega
      split
      · rw [e, ih]; simp
      · rw [e, Memory.read, if_neg (by omega), ih]; simp

end Sys2Proof.Machine
end

