-- ==== Sys2Proof/Laws/State.lean ====
section
/-! SUPPORT. One lemma per field per update of the state, and the register pairs by their bytes. -/

namespace Sys2Proof.Machine

open Sys2Proof


/-! #### `setReg8` -/

@[simp] theorem State.setReg8_bus (s : State) (r : Reg8) (v : Byte) : (s.setReg8 r v).bus = s.bus := rfl
@[simp] theorem State.setReg8_timers (s : State) (r : Reg8) (v : Byte) :
    (s.setReg8 r v).timers = s.timers := rfl
@[simp] theorem State.setReg8_snd (s : State) (r : Reg8) (v : Byte) : (s.setReg8 r v).snd = s.snd := rfl
@[simp] theorem State.setReg8_host (s : State) (r : Reg8) (v : Byte) : (s.setReg8 r v).host = s.host := rfl
@[simp] theorem State.setReg8_sessionCycles (s : State) (r : Reg8) (v : Byte) :
    (s.setReg8 r v).sessionCycles = s.sessionCycles := rfl
@[simp] theorem State.setReg8_draws (s : State) (r : Reg8) (v : Byte) : (s.setReg8 r v).draws = s.draws := rfl
@[simp] theorem State.setReg8_cycles (s : State) (r : Reg8) (v : Byte) :
    (s.setReg8 r v).cycles = s.cycles := rfl
@[simp] theorem State.setReg8_sp (s : State) (r : Reg8) (v : Byte) :
    (s.setReg8 r v).cpu.sp = s.cpu.sp := by cases r <;> rfl
@[simp] theorem State.setReg8_pc (s : State) (r : Reg8) (v : Byte) :
    (s.setReg8 r v).cpu.pc = s.cpu.pc := by cases r <;> rfl
@[simp] theorem State.setReg8_ime (s : State) (r : Reg8) (v : Byte) :
    (s.setReg8 r v).cpu.ime = s.cpu.ime := by cases r <;> rfl
@[simp] theorem State.setReg8_halted (s : State) (r : Reg8) (v : Byte) :
    (s.setReg8 r v).cpu.halted = s.cpu.halted := by cases r <;> rfl
@[simp] theorem State.setReg8_stopReason (s : State) (r : Reg8) (v : Byte) :
    (s.setReg8 r v).cpu.stopReason = s.cpu.stopReason := by cases r <;> rfl
@[simp] theorem State.setReg8_f (s : State) (r : Reg8) (v : Byte) :
    (s.setReg8 r v).cpu.f = s.cpu.f := by cases r <;> rfl

/-! #### `setHl` -/

@[simp] theorem State.setHl_bus (s : State) (v : Word) : (s.setHl v).bus = s.bus := rfl
@[simp] theorem State.setHl_timers (s : State) (v : Word) : (s.setHl v).timers = s.timers := rfl
@[simp] theorem State.setHl_snd (s : State) (v : Word) : (s.setHl v).snd = s.snd := rfl
@[simp] theorem State.setHl_host (s : State) (v : Word) : (s.setHl v).host = s.host := rfl
@[simp] theorem State.setHl_sessionCycles (s : State) (v : Word) :
    (s.setHl v).sessionCycles = s.sessionCycles := rfl
@[simp] theorem State.setHl_draws (s : State) (v : Word) : (s.setHl v).draws = s.draws := rfl
@[simp] theorem State.setHl_cycles (s : State) (v : Word) : (s.setHl v).cycles = s.cycles := rfl
@[simp] theorem State.setHl_sp (s : State) (v : Word) : (s.setHl v).cpu.sp = s.cpu.sp := rfl
@[simp] theorem State.setHl_pc (s : State) (v : Word) : (s.setHl v).cpu.pc = s.cpu.pc := rfl
@[simp] theorem State.setHl_ime (s : State) (v : Word) : (s.setHl v).cpu.ime = s.cpu.ime := rfl
@[simp] theorem State.setHl_halted (s : State) (v : Word) : (s.setHl v).cpu.halted = s.cpu.halted := rfl
@[simp] theorem State.setHl_stopReason (s : State) (v : Word) :
    (s.setHl v).cpu.stopReason = s.cpu.stopReason := rfl
@[simp] theorem State.setHl_f (s : State) (v : Word) : (s.setHl v).cpu.f = s.cpu.f := rfl

/-! #### `setSp` -/

@[simp] theorem State.setSp_bus (s : State) (v : Word) : (s.setSp v).bus = s.bus := rfl
@[simp] theorem State.setSp_timers (s : State) (v : Word) : (s.setSp v).timers = s.timers := rfl
@[simp] theorem State.setSp_snd (s : State) (v : Word) : (s.setSp v).snd = s.snd := rfl
@[simp] theorem State.setSp_host (s : State) (v : Word) : (s.setSp v).host = s.host := rfl
@[simp] theorem State.setSp_sessionCycles (s : State) (v : Word) :
    (s.setSp v).sessionCycles = s.sessionCycles := rfl
@[simp] theorem State.setSp_draws (s : State) (v : Word) : (s.setSp v).draws = s.draws := rfl
@[simp] theorem State.setSp_cycles (s : State) (v : Word) : (s.setSp v).cycles = s.cycles := rfl
@[simp] theorem State.setSp_sp (s : State) (v : Word) : (s.setSp v).cpu.sp = v := rfl
@[simp] theorem State.setSp_pc (s : State) (v : Word) : (s.setSp v).cpu.pc = s.cpu.pc := rfl
@[simp] theorem State.setSp_ime (s : State) (v : Word) : (s.setSp v).cpu.ime = s.cpu.ime := rfl
@[simp] theorem State.setSp_halted (s : State) (v : Word) : (s.setSp v).cpu.halted = s.cpu.halted := rfl
@[simp] theorem State.setSp_stopReason (s : State) (v : Word) :
    (s.setSp v).cpu.stopReason = s.cpu.stopReason := rfl
@[simp] theorem State.setSp_f (s : State) (v : Word) : (s.setSp v).cpu.f = s.cpu.f := rfl
@[simp] theorem State.setSp_reg8 (s : State) (v : Word) (q : Reg8) :
    (s.setSp v).reg8 q = s.reg8 q := by cases q <;> rfl
@[simp] theorem State.setSp_hl (s : State) (v : Word) : (s.setSp v).hl = s.hl := rfl
@[simp] theorem State.setSp_a (s : State) (v : Word) : (s.setSp v).cpu.a = s.cpu.a := rfl

/-! #### `setPc` -/

@[simp] theorem State.setPc_bus (s : State) (v : Word) : (s.setPc v).bus = s.bus := rfl
@[simp] theorem State.setPc_timers (s : State) (v : Word) : (s.setPc v).timers = s.timers := rfl
@[simp] theorem State.setPc_snd (s : State) (v : Word) : (s.setPc v).snd = s.snd := rfl
@[simp] theorem State.setPc_host (s : State) (v : Word) : (s.setPc v).host = s.host := rfl
@[simp] theorem State.setPc_sessionCycles (s : State) (v : Word) :
    (s.setPc v).sessionCycles = s.sessionCycles := rfl
@[simp] theorem State.setPc_draws (s : State) (v : Word) : (s.setPc v).draws = s.draws := rfl
@[simp] theorem State.setPc_cycles (s : State) (v : Word) : (s.setPc v).cycles = s.cycles := rfl
@[simp] theorem State.setPc_sp (s : State) (v : Word) : (s.setPc v).cpu.sp = s.cpu.sp := rfl
@[simp] theorem State.setPc_pc (s : State) (v : Word) : (s.setPc v).cpu.pc = v := rfl
@[simp] theorem State.setPc_ime (s : State) (v : Word) : (s.setPc v).cpu.ime = s.cpu.ime := rfl
@[simp] theorem State.setPc_halted (s : State) (v : Word) : (s.setPc v).cpu.halted = s.cpu.halted := rfl
@[simp] theorem State.setPc_stopReason (s : State) (v : Word) :
    (s.setPc v).cpu.stopReason = s.cpu.stopReason := rfl
@[simp] theorem State.setPc_f (s : State) (v : Word) : (s.setPc v).cpu.f = s.cpu.f := rfl
@[simp] theorem State.setPc_reg8 (s : State) (v : Word) (q : Reg8) :
    (s.setPc v).reg8 q = s.reg8 q := by cases q <;> rfl
@[simp] theorem State.setPc_hl (s : State) (v : Word) : (s.setPc v).hl = s.hl := rfl
@[simp] theorem State.setPc_a (s : State) (v : Word) : (s.setPc v).cpu.a = s.cpu.a := rfl

/-! #### `setIme` -/

@[simp] theorem State.setIme_bus (s : State) (v : Bool) : (s.setIme v).bus = s.bus := rfl
@[simp] theorem State.setIme_timers (s : State) (v : Bool) : (s.setIme v).timers = s.timers := rfl
@[simp] theorem State.setIme_snd (s : State) (v : Bool) : (s.setIme v).snd = s.snd := rfl
@[simp] theorem State.setIme_host (s : State) (v : Bool) : (s.setIme v).host = s.host := rfl
@[simp] theorem State.setIme_sessionCycles (s : State) (v : Bool) :
    (s.setIme v).sessionCycles = s.sessionCycles := rfl
@[simp] theorem State.setIme_draws (s : State) (v : Bool) : (s.setIme v).draws = s.draws := rfl
@[simp] theorem State.setIme_cycles (s : State) (v : Bool) : (s.setIme v).cycles = s.cycles := rfl
@[simp] theorem State.setIme_sp (s : State) (v : Bool) : (s.setIme v).cpu.sp = s.cpu.sp := rfl
@[simp] theorem State.setIme_pc (s : State) (v : Bool) : (s.setIme v).cpu.pc = s.cpu.pc := rfl
@[simp] theorem State.setIme_ime (s : State) (v : Bool) : (s.setIme v).cpu.ime = v := rfl
@[simp] theorem State.setIme_halted (s : State) (v : Bool) : (s.setIme v).cpu.halted = s.cpu.halted := rfl
@[simp] theorem State.setIme_stopReason (s : State) (v : Bool) :
    (s.setIme v).cpu.stopReason = s.cpu.stopReason := rfl
@[simp] theorem State.setIme_f (s : State) (v : Bool) : (s.setIme v).cpu.f = s.cpu.f := rfl
@[simp] theorem State.setIme_reg8 (s : State) (v : Bool) (q : Reg8) :
    (s.setIme v).reg8 q = s.reg8 q := by cases q <;> rfl
@[simp] theorem State.setIme_hl (s : State) (v : Bool) : (s.setIme v).hl = s.hl := rfl
@[simp] theorem State.setIme_a (s : State) (v : Bool) : (s.setIme v).cpu.a = s.cpu.a := rfl

/-! #### `setHalted` -/

@[simp] theorem State.setHalted_bus (s : State) (v : Bool) : (s.setHalted v).bus = s.bus := rfl
@[simp] theorem State.setHalted_timers (s : State) (v : Bool) : (s.setHalted v).timers = s.timers := rfl
@[simp] theorem State.setHalted_snd (s : State) (v : Bool) : (s.setHalted v).snd = s.snd := rfl
@[simp] theorem State.setHalted_host (s : State) (v : Bool) : (s.setHalted v).host = s.host := rfl
@[simp] theorem State.setHalted_sessionCycles (s : State) (v : Bool) :
    (s.setHalted v).sessionCycles = s.sessionCycles := rfl
@[simp] theorem State.setHalted_draws (s : State) (v : Bool) : (s.setHalted v).draws = s.draws := rfl
@[simp] theorem State.setHalted_cycles (s : State) (v : Bool) : (s.setHalted v).cycles = s.cycles := rfl
@[simp] theorem State.setHalted_sp (s : State) (v : Bool) : (s.setHalted v).cpu.sp = s.cpu.sp := rfl
@[simp] theorem State.setHalted_pc (s : State) (v : Bool) : (s.setHalted v).cpu.pc = s.cpu.pc := rfl
@[simp] theorem State.setHalted_ime (s : State) (v : Bool) : (s.setHalted v).cpu.ime = s.cpu.ime := rfl
@[simp] theorem State.setHalted_halted (s : State) (v : Bool) : (s.setHalted v).cpu.halted = v := rfl
@[simp] theorem State.setHalted_stopReason (s : State) (v : Bool) :
    (s.setHalted v).cpu.stopReason = s.cpu.stopReason := rfl
@[simp] theorem State.setHalted_f (s : State) (v : Bool) : (s.setHalted v).cpu.f = s.cpu.f := rfl
@[simp] theorem State.setHalted_reg8 (s : State) (v : Bool) (q : Reg8) :
    (s.setHalted v).reg8 q = s.reg8 q := by cases q <;> rfl
@[simp] theorem State.setHalted_hl (s : State) (v : Bool) : (s.setHalted v).hl = s.hl := rfl
@[simp] theorem State.setHalted_a (s : State) (v : Bool) : (s.setHalted v).cpu.a = s.cpu.a := rfl

/-! #### `setF` -/

@[simp] theorem State.setF_bus (s : State) (v : Byte) : (s.setF v).bus = s.bus := rfl
@[simp] theorem State.setF_timers (s : State) (v : Byte) : (s.setF v).timers = s.timers := rfl
@[simp] theorem State.setF_snd (s : State) (v : Byte) : (s.setF v).snd = s.snd := rfl
@[simp] theorem State.setF_host (s : State) (v : Byte) : (s.setF v).host = s.host := rfl
@[simp] theorem State.setF_sessionCycles (s : State) (v : Byte) :
    (s.setF v).sessionCycles = s.sessionCycles := rfl
@[simp] theorem State.setF_draws (s : State) (v : Byte) : (s.setF v).draws = s.draws := rfl
@[simp] theorem State.setF_cycles (s : State) (v : Byte) : (s.setF v).cycles = s.cycles := rfl
@[simp] theorem State.setF_sp (s : State) (v : Byte) : (s.setF v).cpu.sp = s.cpu.sp := rfl
@[simp] theorem State.setF_pc (s : State) (v : Byte) : (s.setF v).cpu.pc = s.cpu.pc := rfl
@[simp] theorem State.setF_ime (s : State) (v : Byte) : (s.setF v).cpu.ime = s.cpu.ime := rfl
@[simp] theorem State.setF_halted (s : State) (v : Byte) : (s.setF v).cpu.halted = s.cpu.halted := rfl
@[simp] theorem State.setF_stopReason (s : State) (v : Byte) :
    (s.setF v).cpu.stopReason = s.cpu.stopReason := rfl
@[simp] theorem State.setF_reg8 (s : State) (v : Byte) (q : Reg8) :
    (s.setF v).reg8 q = s.reg8 q := by cases q <;> rfl
@[simp] theorem State.setF_hl (s : State) (v : Byte) : (s.setF v).hl = s.hl := rfl
@[simp] theorem State.setF_a (s : State) (v : Byte) : (s.setF v).cpu.a = s.cpu.a := rfl

/-! #### `setFlags` -/

@[simp] theorem State.setFlags_bus (s : State) (z n h c : Bool) : (s.setFlags z n h c).bus = s.bus := rfl
@[simp] theorem State.setFlags_timers (s : State) (z n h c : Bool) :
    (s.setFlags z n h c).timers = s.timers := rfl
@[simp] theorem State.setFlags_snd (s : State) (z n h c : Bool) : (s.setFlags z n h c).snd = s.snd := rfl
@[simp] theorem State.setFlags_host (s : State) (z n h c : Bool) : (s.setFlags z n h c).host = s.host := rfl
@[simp] theorem State.setFlags_sessionCycles (s : State) (z n h c : Bool) :
    (s.setFlags z n h c).sessionCycles = s.sessionCycles := rfl
@[simp] theorem State.setFlags_draws (s : State) (z n h c : Bool) :
    (s.setFlags z n h c).draws = s.draws := rfl
@[simp] theorem State.setFlags_cycles (s : State) (z n h c : Bool) :
    (s.setFlags z n h c).cycles = s.cycles := rfl
@[simp] theorem State.setFlags_sp (s : State) (z n h c : Bool) : (s.setFlags z n h c).cpu.sp = s.cpu.sp := rfl
@[simp] theorem State.setFlags_pc (s : State) (z n h c : Bool) : (s.setFlags z n h c).cpu.pc = s.cpu.pc := rfl
@[simp] theorem State.setFlags_ime (s : State) (z n h c : Bool) :
    (s.setFlags z n h c).cpu.ime = s.cpu.ime := rfl
@[simp] theorem State.setFlags_halted (s : State) (z n h c : Bool) :
    (s.setFlags z n h c).cpu.halted = s.cpu.halted := rfl
@[simp] theorem State.setFlags_stopReason (s : State) (z n h c : Bool) :
    (s.setFlags z n h c).cpu.stopReason = s.cpu.stopReason := rfl
@[simp] theorem State.setFlags_reg8 (s : State) (z n h c : Bool) (q : Reg8) :
    (s.setFlags z n h c).reg8 q = s.reg8 q := by cases q <;> rfl
@[simp] theorem State.setFlags_hl (s : State) (z n h c : Bool) : (s.setFlags z n h c).hl = s.hl := rfl
@[simp] theorem State.setFlags_a (s : State) (z n h c : Bool) : (s.setFlags z n h c).cpu.a = s.cpu.a := rfl

/-! #### Registers -/

@[simp] theorem State.setReg8_reg8 (s : State) (r q : Reg8) (v : Byte) :
    (s.setReg8 r v).reg8 q = if q = r then v else s.reg8 q := by
  cases r <;> cases q <;> rfl

@[simp] theorem State.setReg8_a_a (s : State) (v : Byte) : (s.setReg8 .a v).cpu.a = v := rfl
@[simp] theorem State.setReg8_a_hl (s : State) (v : Byte) : (s.setReg8 .a v).hl = s.hl := rfl
@[simp] theorem State.setF_f (s : State) (v : Byte) : (s.setF v).cpu.f = v &&& 0xF0#8 := rfl
theorem State.reg8_a (s : State) : s.reg8 .a = s.cpu.a := rfl

@[simp] theorem State.setHl_reg8 (s : State) (v : Word) (q : Reg8) :
    (s.setHl v).reg8 q = if q = .h then hiByte v else if q = .l then loByte v else s.reg8 q := by
  cases q <;> rfl

@[simp] theorem State.setHl_a (s : State) (v : Word) : (s.setHl v).cpu.a = s.cpu.a := rfl

theorem wordOf_bytes (w : Word) : wordOf (loByte w) (hiByte w) = w := by
  simp only [wordOf, loByte, hiByte]; ext i hi; simp only [BitVec.getElem_append]; grind

@[simp] theorem loByte_wordOf (lo hi : Byte) : loByte (wordOf lo hi) = lo := by
  ext i h; simp [wordOf, loByte]; grind

@[simp] theorem hiByte_wordOf (lo hi : Byte) : hiByte (wordOf lo hi) = hi := by
  ext i h; simp [wordOf, hiByte]; grind

@[simp] theorem State.setHl_hl (s : State) (v : Word) : (s.setHl v).hl = v := wordOf_bytes v

/-! #### `charge` -/

@[simp] theorem State.charge_cycles (s : State) (n : Nat) : (s.charge n).cycles = n := rfl
@[simp] theorem State.charge_cpu (s : State) (n : Nat) : (s.charge n).cpu = s.cpu := rfl
@[simp] theorem State.charge_reg8 (s : State) (n : Nat) (q : Reg8) : (s.charge n).reg8 q = s.reg8 q := by
  cases q <;> rfl
@[simp] theorem State.charge_hl (s : State) (n : Nat) : (s.charge n).hl = s.hl := rfl
@[simp] theorem State.charge_bus (s : State) (n : Nat) : (s.charge n).bus = s.bus := rfl
@[simp] theorem State.charge_timers (s : State) (n : Nat) : (s.charge n).timers = s.timers := rfl
@[simp] theorem State.charge_snd (s : State) (n : Nat) : (s.charge n).snd = s.snd := rfl
@[simp] theorem State.charge_host (s : State) (n : Nat) : (s.charge n).host = s.host := rfl
@[simp] theorem State.charge_sessionCycles (s : State) (n : Nat) :
    (s.charge n).sessionCycles = s.sessionCycles := rfl
@[simp] theorem State.charge_draws (s : State) (n : Nat) : (s.charge n).draws = s.draws := rfl

end Sys2Proof.Machine
end

