-- ==== Sys2Proof/Laws/Bus.lean ====
section
/-! SUPPORT. The bus by address range: what a read returns and leaves behind, and what a write changes. -/

namespace Sys2Proof.Machine

open Sys2Proof

/-! ### Regions -/

/-- The page table by address. -/
theorem regionOf_eq (a : Word) :
    regionOf a =
      if a.toNat < 0x4000 then .romFixed else if a.toNat < 0x8000 then .romBanked
      else if a.toNat < 0xA000 then .unmapped else if a.toNat < 0xC000 then .extRam
      else if a.toNat < 0xE000 then .workRam else if a.toNat < 0xFF00 then .unmapped else .ioPage := by
  have := a.isLt
  simp only [regionOf, handlerOf, busInstalls, List.foldl_cons, List.foldl_nil]
  repeat' split
  all_goals first | rfl | omega

/-- An address of the I/O page. -/
theorem io_page {a : Word} (h : regionOf a = .ioPage) : 0xFF00 ≤ a.toNat := by
  by_contra hlt
  rw [regionOf_eq] at h
  simp only [show a.toNat < 0xFF00 by omega, if_true] at h
  repeat' split at h
  all_goals cases h

/-- The fan-out of an address of the I/O page. -/
theorem ioReg_low (a : Word) (h : 0xFF00 ≤ a.toNat) :
    ioReg (lowOf a) =
      if a.toNat = 0xFF04 ∨ a.toNat = 0xFF05 then .counter
      else if a.toNat = 0xFF06 then .tma else if a.toNat = 0xFF07 then .tac
      else if 0xFF10 ≤ a.toNat ∧ a.toNat ≤ 0xFF3F then .sound
      else if 0xFF80 ≤ a.toNat ∧ a.toNat ≤ 0xFFFE then .highRam
      else if a.toNat = 0xFFFF then .ie else .unimplemented := by
  have := a.isLt
  have e : lowOf a = a.toNat - 0xFF00 := by unfold lowOf; omega
  simp only [ioReg, e]
  repeat' split
  all_goals first | rfl | omega

theorem isCounter_iff (a : Word) : IsCounter a ↔ a.toNat = 0xFF04 ∨ a.toNat = 0xFF05 := by
  simp [IsCounter, ← BitVec.toNat_inj]

theorem isTimerReg_iff (a : Word) : IsTimerReg a ↔ a.toNat = 0xFF06 ∨ a.toNat = 0xFF07 := by
  simp [IsTimerReg, ← BitVec.toNat_inj]

theorem isUnimplemented_iff (a : Word) : IsUnimplemented a ↔
    0xFF00 ≤ a.toNat ∧ a.toNat < 0xFF80 ∧ ¬ (0xFF04 ≤ a.toNat ∧ a.toNat ≤ 0xFF07) ∧
    ¬ (0xFF10 ≤ a.toNat ∧ a.toNat ≤ 0xFF3F) := by
  simp only [IsUnimplemented, isCounter_iff, isTimerReg_iff, IsSoundReg]
  omega

/-! ### What a read returns, by the kind of its address -/

/-- The kinds of address, each with its range. -/
inductive AddrKind (a : Word) : Prop where
  | romLow (h : a.toNat < 0x2000)
  | bankSelect (h : IsBankSelect a)
  | bankWindow (h : IsBankWindow a)
  | absent (h : (0x8000 ≤ a.toNat ∧ a.toNat < 0xA000) ∨ (0xE000 ≤ a.toNat ∧ a.toNat < 0xFF00))
  | ram (h : IsRam a)
  | counter (h : IsCounter a)
  | timer (h : IsTimerReg a)
  | sound (h : IsSoundReg a)
  | ie (h : a = 0xFFFF#16)
  | unimplemented (h : IsUnimplemented a)

/-- Every address is of one of the kinds. -/
theorem addrKind (a : Word) : AddrKind a := by
  have := a.isLt
  by_cases h1 : a.toNat < 0x2000
  · exact .romLow h1
  by_cases h2 : a.toNat < 0x4000
  · exact .bankSelect (by unfold IsBankSelect; omega)
  by_cases h3 : a.toNat < 0x8000
  · exact .bankWindow (by unfold IsBankWindow; omega)
  by_cases h4 : IsRam a
  · exact .ram h4
  by_cases h5 : IsCounter a
  · exact .counter h5
  by_cases h6 : IsTimerReg a
  · exact .timer h6
  by_cases h7 : IsSoundReg a
  · exact .sound h7
  by_cases h8 : a = 0xFFFF#16
  · exact .ie h8
  by_cases h9 : IsUnimplemented a
  · exact .unimplemented h9
  rw [isCounter_iff] at h5
  rw [isTimerReg_iff] at h6
  rw [isUnimplemented_iff] at h9
  have h8' : a.toNat ≠ 0xFFFF := fun e => h8 (BitVec.eq_of_toNat_eq e)
  unfold IsRam at h4
  unfold IsSoundReg at h7
  exact .absent (by omega)

theorem peek_romFixed (s : State) {a : Word} (h : a.toNat < 0x4000) :
    s.peek a = Memory.read s.bus.rom a.toNat := by
  simp [State.peek, regionOf_eq, h]

theorem peek_bankWindow (s : State) {a : Word} (h : IsBankWindow a) :
    s.peek a = Memory.read s.bus.rom (s.bus.romBank * 16384 + (a.toNat - 0x4000)) := by
  have h1 : ¬ a.toNat < 0x4000 := by unfold IsBankWindow at h; omega
  have h2 : a.toNat < 0x8000 := by unfold IsBankWindow at h; omega
  have e : regionOf a = .romBanked := by rw [regionOf_eq, if_neg h1, if_pos h2]
  unfold State.peek
  rw [e]
  simp only
  unfold bankedOffset Config.bankSize
  rfl

theorem peek_absent (s : State) {a : Word}
    (h : (0x8000 ≤ a.toNat ∧ a.toNat < 0xA000) ∨ (0xE000 ≤ a.toNat ∧ a.toNat < 0xFF00)) :
    s.peek a = 0xFF#8 := by
  have e : regionOf a = .unmapped := by
    rw [regionOf_eq]; repeat' split
    all_goals first | rfl | omega
  simp [State.peek, e]

/-- The region of RAM is one of three, all backed by the same cells. -/
theorem ram_region {a : Word} (h : IsRam a) :
    regionOf a = .extRam ∨ regionOf a = .workRam ∨ (regionOf a = .ioPage ∧ ioReg (lowOf a) = .highRam) := by
  unfold IsRam at h
  by_cases hi : 0xFF00 ≤ a.toNat
  · refine .inr (.inr ⟨?_, ?_⟩)
    · rw [regionOf_eq]; repeat' split
      all_goals first | rfl | omega
    · rw [ioReg_low a hi]; repeat' split
      all_goals first | rfl | omega
  · by_cases hw : a.toNat < 0xC000
    · left; rw [regionOf_eq]; repeat' split
      all_goals first | rfl | omega
    · right; left; rw [regionOf_eq]; repeat' split
      all_goals first | rfl | omega

theorem peek_ram (s : State) {a : Word} (h : IsRam a) : s.peek a = Memory.read s.bus.mem a.toNat := by
  rcases ram_region h with e | e | ⟨e, e'⟩
  · simp [State.peek, e]
  · simp [State.peek, e]
  · simp [State.peek, State.peekIo, e, e']

/-- The region of an address of the I/O page. -/
theorem io_region {a : Word} (h : 0xFF00 ≤ a.toNat) : regionOf a = .ioPage := by
  rw [regionOf_eq]; repeat' split
  all_goals first | rfl | omega

theorem counter_reg {a : Word} (h : IsCounter a) : 0xFF00 ≤ a.toNat ∧ ioReg (lowOf a) = .counter := by
  rcases h with rfl | rfl <;> exact ⟨by decide, by decide⟩

theorem sound_reg {a : Word} (h : IsSoundReg a) :
    0xFF00 ≤ a.toNat ∧ ioReg (lowOf a) = .sound ∧ lowOf a = a.toNat - 0xFF00 := by
  unfold IsSoundReg at h
  have hi : 0xFF00 ≤ a.toNat := by omega
  have := a.isLt
  refine ⟨hi, ?_, by unfold lowOf; omega⟩
  rw [ioReg_low a hi]; repeat' split
  all_goals first | rfl | omega

theorem unimplemented_reg {a : Word} (h : IsUnimplemented a) :
    0xFF00 ≤ a.toNat ∧ ioReg (lowOf a) = .unimplemented := by
  rw [isUnimplemented_iff] at h
  refine ⟨h.1, ?_⟩
  rw [ioReg_low a h.1]; repeat' split
  all_goals first | rfl | omega

theorem peek_counter (s : State) {a : Word} (h : IsCounter a) : s.peek a = Config.draw s.draws := by
  simp [State.peek, State.peekIo, io_region (counter_reg h).1, (counter_reg h).2]

theorem peek_tma (s : State) : s.peek 0xFF06#16 = s.bus.tma := rfl
theorem peek_tac (s : State) : s.peek 0xFF07#16 = s.bus.tac := rfl
theorem peek_ie (s : State) : s.peek 0xFFFF#16 = s.bus.ie := rfl

theorem peek_sound (s : State) {a : Word} (h : IsSoundReg a) :
    s.peek a = Memory.read s.snd.regs (a.toNat - 0xFF00) := by
  simp [State.peek, State.peekIo, io_region (sound_reg h).1, (sound_reg h).2.1]
  rw [(sound_reg h).2.2]

theorem peek_unimplemented (s : State) {a : Word} (h : IsUnimplemented a) : s.peek a = 0xFF#8 := by
  simp [State.peek, State.peekIo, io_region (unimplemented_reg h).1, unimplemented_reg h]

/-- A read depends on the bus, the sound registers and the draw counter alone. -/
theorem peek_congr {s t : State} (hb : t.bus = s.bus) (hr : t.snd.regs = s.snd.regs) (hd : t.draws = s.draws)
    (a : Word) : t.peek a = s.peek a := by
  simp only [State.peek, State.peekIo, hb, hr, hd]

/-- Off the counters the I/O page reads no draw. -/
theorem not_counter_reg {a : Word} (h : ¬ IsCounter a) (hr : regionOf a = .ioPage) :
    ioReg (lowOf a) ≠ .counter := by
  intro e
  rw [ioReg_low a (io_page hr)] at e
  rw [isCounter_iff] at h
  repeat' split at e
  all_goals first | omega | cases e

/-- A read off the counters depends on the bus and the sound registers alone. -/
theorem peek_congr_off_counters {s t : State} (hb : t.bus = s.bus) (hr : t.snd.regs = s.snd.regs)
    {a : Word} (h : ¬ IsCounter a) : t.peek a = s.peek a := by
  unfold State.peek
  split
  case h_5 hreg =>
    have hc := not_counter_reg h hreg
    unfold State.peekIo
    split
    · next e => exact absurd e hc
    all_goals simp only [hb, hr]
  all_goals simp only [hb]

/-! ### What a read leaves behind -/

/-- A read changes nothing but the draw counter and the events. -/
theorem afterRead_eq (s : State) (a : Word) : s.afterRead a = s ∨
    (IsCounter a ∧ s.afterRead a = { s with draws := s.draws + 1 }) ∨
    (IsUnimplemented a ∧ s.afterRead a = s.note (.diag (.unimplementedRead a))) := by
  unfold State.afterRead
  split
  · next hreg =>
    have hi := io_page hreg
    have e := ioReg_low a hi
    split
    · next hio =>
      refine .inr (.inl ⟨(isCounter_iff a).mpr ?_, rfl⟩)
      rw [hio] at e
      repeat' split at e
      all_goals first | omega | cases e
    · next hio =>
      refine .inr (.inr ⟨(isUnimplemented_iff a).mpr ?_, rfl⟩)
      rw [hio] at e
      have := a.isLt
      repeat' split at e
      all_goals first | omega | cases e
    · exact .inl rfl
  · exact .inl rfl

@[simp] theorem State.afterRead_cpu (s : State) (a : Word) : (s.afterRead a).cpu = s.cpu := by
  rcases afterRead_eq s a with e | ⟨-, e⟩ | ⟨-, e⟩ <;> (rw [e]; try rfl)
@[simp] theorem State.afterRead_bus (s : State) (a : Word) : (s.afterRead a).bus = s.bus := by
  rcases afterRead_eq s a with e | ⟨-, e⟩ | ⟨-, e⟩ <;> (rw [e]; try rfl)
@[simp] theorem State.afterRead_timers (s : State) (a : Word) : (s.afterRead a).timers = s.timers := by
  rcases afterRead_eq s a with e | ⟨-, e⟩ | ⟨-, e⟩ <;> (rw [e]; try rfl)
@[simp] theorem State.afterRead_snd (s : State) (a : Word) : (s.afterRead a).snd = s.snd := by
  rcases afterRead_eq s a with e | ⟨-, e⟩ | ⟨-, e⟩ <;> (rw [e]; try rfl)
@[simp] theorem State.afterRead_sessionCycles (s : State) (a : Word) :
    (s.afterRead a).sessionCycles = s.sessionCycles := by
  rcases afterRead_eq s a with e | ⟨-, e⟩ | ⟨-, e⟩ <;> (rw [e]; try rfl)
@[simp] theorem State.afterRead_cycles (s : State) (a : Word) : (s.afterRead a).cycles = s.cycles := by
  rcases afterRead_eq s a with e | ⟨-, e⟩ | ⟨-, e⟩ <;> (rw [e]; try rfl)

@[simp] theorem State.afterRead_reg8 (s : State) (a : Word) (q : Reg8) : (s.afterRead a).reg8 q = s.reg8 q := by
  cases q <;> simp [State.reg8]
@[simp] theorem State.afterRead_hl (s : State) (a : Word) : (s.afterRead a).hl = s.hl := by simp [State.hl]
@[simp] theorem State.afterRead_flagC (s : State) (a : Word) : (s.afterRead a).flagC = s.flagC := by
  simp [State.flagC]

theorem afterRead_counter (s : State) {a : Word} (h : IsCounter a) :
    s.afterRead a = { s with draws := s.draws + 1 } := by
  simp [State.afterRead, io_region (counter_reg h).1, (counter_reg h).2]

theorem afterRead_unimplemented (s : State) {a : Word} (h : IsUnimplemented a) :
    s.afterRead a = s.note (.diag (.unimplementedRead a)) := by
  simp [State.afterRead, io_region (unimplemented_reg h).1, unimplemented_reg h]

theorem afterRead_plain (s : State) {a : Word} (hu : ¬ IsUnimplemented a) (hc : ¬ IsCounter a) :
    s.afterRead a = s := by
  rcases afterRead_eq s a with e | ⟨h, -⟩ | ⟨h, -⟩
  · exact e
  · exact absurd h hc
  · exact absurd h hu

theorem memorySame_afterRead (s : State) (a : Word) : MemorySame s (s.afterRead a) := fun _ h =>
  peek_congr_off_counters (by simp) (by simp) h

/-! ### What a write changes -/

theorem memWrite_ignored (s : State) {a : Word} (v : Byte)
    (h : a.toNat < 0x2000 ∨ IsBankWindow a ∨ (0x8000 ≤ a.toNat ∧ a.toNat < 0xA000) ∨
      (0xE000 ≤ a.toNat ∧ a.toNat < 0xFF00) ∨ IsCounter a) : s.memWrite a v = s := by
  rcases h with h | h | h | h | h
  · have h4 : a.toNat < 0x4000 := by omega
    have h2 : ¬ 0x2000 ≤ a.toNat := by omega
    simp [State.memWrite, regionOf_eq, h4, h2]
  · have h1 : ¬ a.toNat < 0x4000 := by unfold IsBankWindow at h; omega
    have h2 : a.toNat < 0x8000 := by unfold IsBankWindow at h; omega
    simp [State.memWrite, regionOf_eq, h1, h2]
  · have e : regionOf a = .unmapped := by
      rw [regionOf_eq]; repeat' split
      all_goals first | rfl | omega
    simp [State.memWrite, e]
  · have e : regionOf a = .unmapped := by
      rw [regionOf_eq]; repeat' split
      all_goals first | rfl | omega
    simp [State.memWrite, e]
  · simp [State.memWrite, State.writeIo, io_region (counter_reg h).1, (counter_reg h).2]

theorem memWrite_ram (s : State) {a : Word} (v : Byte) (h : IsRam a) :
    s.memWrite a v = { s with bus := { s.bus with mem := Memory.write s.bus.mem a.toNat v } } := by
  rcases ram_region h with e | e | ⟨e, e'⟩
  · simp [State.memWrite, State.writeRam, e]
  · simp [State.memWrite, State.writeRam, e]
  · simp [State.memWrite, State.writeIo, State.writeRam, e, e']

theorem memWrite_ie (s : State) (v : Byte) :
    s.memWrite 0xFFFF#16 v = { s with bus := { s.bus with ie := v } } := rfl

theorem memWrite_tma (s : State) (v : Byte) :
    s.memWrite 0xFF06#16 v = State.reprogramTimer { s with bus := { s.bus with tma := v } } := rfl

theorem memWrite_tac (s : State) (v : Byte) :
    s.memWrite 0xFF07#16 v = State.reprogramTimer { s with bus := { s.bus with tac := v } } := rfl

theorem memWrite_unimplemented (s : State) {a : Word} (v : Byte) (h : IsUnimplemented a) :
    s.memWrite a v = s.note (.diag (.unimplementedWrite a v)) := by
  simp [State.memWrite, State.writeIo, io_region (unimplemented_reg h).1, unimplemented_reg h]

theorem memWrite_sound (s : State) {a : Word} (v : Byte) (h : IsSoundReg a) :
    s.memWrite a v = s.writeSound a v := by
  simp [State.memWrite, State.writeIo, io_region (sound_reg h).1, (sound_reg h).2.1]

theorem memWrite_bankSelect (s : State) {a : Word} (v : Byte) (h : IsBankSelect a) :
    s.memWrite a v = s.selectBank v := by
  unfold IsBankSelect at h
  have h4 : a.toNat < 0x4000 := by omega
  simp [State.memWrite, regionOf_eq, h4, h.1]

end Sys2Proof.Machine
end

