-- ==== Sys2Proof/Laws/Decode.lean ====
section
/-! SUPPORT. What the decoder gives for each first byte, how many bytes that takes, and what a fetch
leaves behind. -/

namespace Sys2Proof.Machine

open Sys2Proof

/-- A property of bytes, by the 256 of them. -/
theorem all_bytes {P : Byte → Prop} (h : ∀ n : Fin 256, P (BitVec.ofFin n)) : ∀ b, P b := fun b => h b.toFin

/-- Every first byte but the prefix decodes to a whole instruction that encodes to the bytes it took. -/
theorem encode_decodePrimary (n n2 : Byte) : ∀ op : Byte, op ≠ 0xCB#8 →
    (decodePrimary op n n2).wellFormed = true ∧
    encode (decodePrimary op n n2) = [op, n, n2].take (instrLength op) := by
  apply all_bytes
  intro k
  fin_cases k <;> intro h <;> first
    | exact absurd rfl h
    | exact ⟨rfl, rfl⟩
    | (refine ⟨rfl, ?_⟩
       show [_, loByte (wordOf n n2), hiByte (wordOf n n2)] = _
       rw [loByte_wordOf, hiByte_wordOf]
       rfl)

/-- Every sub-opcode decodes to a whole instruction that encodes to the prefix and itself. -/
theorem encode_decodeCb : ∀ op : Byte, ∃ i, decodeCb op = some i ∧ i.wellFormed = true ∧
    encode i = [0xCB#8, op] := by
  apply all_bytes
  intro k
  fin_cases k <;> exact ⟨_, rfl, rfl, rfl⟩

/-- An instruction has one, two or three bytes. -/
theorem instrLength_range (b : Byte) : instrLength b = 1 ∨ instrLength b = 2 ∨ instrLength b = 3 := by
  unfold instrLength
  split
  · exact .inr (.inr rfl)
  · split
    · exact .inr (.inl rfl)
    · exact .inl rfl

/-- What a fetch leaves unchanged. -/
theorem afterFetch_same (n : Nat) (s : State) :
    (afterFetch n s).cpu = { s.cpu with pc := s.cpu.pc + BitVec.ofNat 16 n } ∧
    (afterFetch n s).bus = s.bus ∧ (afterFetch n s).timers = s.timers ∧ (afterFetch n s).snd = s.snd ∧
    (afterFetch n s).sessionCycles = s.sessionCycles := by
  induction n generalizing s with
  | zero => simp [afterFetch]
  | succ n ih =>
    obtain ⟨h1, h2, h3, h4, h5⟩ := ih ((s.afterRead s.cpu.pc).setPc (s.cpu.pc + 1#16))
    refine ⟨?_, h2.trans (by simp), h3.trans (by simp), h4.trans (by simp), h5.trans (by simp)⟩
    unfold afterFetch
    rw [h1]
    simp [State.setPc]
    bv_omega

theorem fetchedBytes_length (n : Nat) (s : State) : (fetchedBytes n s).length = n := by
  induction n generalizing s with
  | zero => rfl
  | succ n ih => simp [fetchedBytes, ih]

/-- A fetch sends the host at most diagnostics. -/
theorem afterFetch_host (n : Nat) (s : State) :
    (afterFetch n s).host = { s.host with events := (afterFetch n s).host.events } := by
  induction n generalizing s with
  | zero => rfl
  | succ n ih =>
    have h : ∃ e, (s.afterRead s.cpu.pc).host = { s.host with events := e } := by
      rcases afterRead_eq s s.cpu.pc with h | ⟨-, h⟩ | ⟨-, h⟩ <;> rw [h] <;> exact ⟨_, rfl⟩
    obtain ⟨e, h⟩ := h
    have h' : ((s.afterRead s.cpu.pc).setPc (s.cpu.pc + 1#16)).host = { s.host with events := e } := h
    rw [afterFetch, ih, h']

end Sys2Proof.Machine
end

