-- ==== Sys2Proof/Laws/ByFamily.lean ====
section
/-! SUPPORT. A property holds of every instruction if it holds of every group of rows. -/

namespace Sys2Proof.Laws

open Sys2Proof

/-- Case analysis by group of rows. -/
theorem instr_by_family {P : Instr → Prop}
    (ld : ∀ dst src, P (.ldOf dst src))
    (ldImm : ∀ dst n, P (.ldImmOf dst n))
    (ldFromHl : ∀ dst, P (.ldFromHlOf dst))
    (ldToHl : ∀ src, P (.ldToHlOf src))
    (ldPair : ∀ p nn, P (.ldPairOf p nn))
    (pop : ∀ p, P (.popOf p))
    (push : ∀ p, P (.pushOf p))
    (alu : ∀ op o, P (.aluOf op o))
    (aluImm : ∀ op n, P (.aluImmOf op n))
    (inc : ∀ o, P (.incOf o))
    (dec : ∀ o, P (.decOf o))
    (addHl : ∀ p, P (.addHlOf p))
    (incPair : ∀ p, P (.incPairOf p))
    (decPair : ∀ p, P (.decPairOf p))
    (rot : ∀ op o, P (.rotOf op o))
    (bit : ∀ b o, P (.bitOf b o))
    (res : ∀ b o, P (.resOf b o))
    (set : ∀ b o, P (.setOf b o))
    (jpIf : ∀ cc nn, P (.jpIfOf cc nn))
    (jrIf : ∀ cc e, P (.jrIfOf cc e))
    (callIf : ∀ cc nn, P (.callIfOf cc nn))
    (retIf : ∀ cc, P (.retIfOf cc))
    (rst : ∀ y, P (.rstOf y))
    (illegal : ∀ r ∈ illegalRows, P r.2)
    (onNop : P .nop)
    (onLdMbcA : P .ld_mbc_a)
    (onRlca : P .rlca)
    (onLdMa16Sp : ∀ nn, P (.ld_ma16_sp nn))
    (onLdAMbc : P .ld_a_mbc)
    (onRrca : P .rrca)
    (onStop : P .stop)
    (onLdMdeA : P .ld_mde_a)
    (onRla : P .rla)
    (onJrE8 : ∀ e, P (.jr_e8 e))
    (onLdAMde : P .ld_a_mde)
    (onRra : P .rra)
    (onLdMhliA : P .ld_mhli_a)
    (onDaa : P .daa)
    (onLdAMhli : P .ld_a_mhli)
    (onCpl : P .cpl)
    (onLdMhldA : P .ld_mhld_a)
    (onLdMhlD8 : ∀ n, P (.ld_mhl_d8 n))
    (onScf : P .scf)
    (onLdAMhld : P .ld_a_mhld)
    (onCcf : P .ccf)
    (onHalt : P .halt)
    (onJpA16 : ∀ nn, P (.jp_a16 nn))
    (onRet : P .ret)
    (onCbPrefix : ∀ op2, P (.cb_prefix op2))
    (onCallA16 : ∀ nn, P (.call_a16 nn))
    (onReti : P .reti)
    (onLdhMa8A : ∀ n, P (.ldh_ma8_a n))
    (onLdMcA : P .ld_mc_a)
    (onAddSpE8 : ∀ e, P (.add_sp_e8 e))
    (onJpHl : P .jp_hl)
    (onLdMa16A : ∀ nn, P (.ld_ma16_a nn))
    (onLdhAMa8 : ∀ n, P (.ldh_a_ma8 n))
    (onLdAMc : P .ld_a_mc)
    (onDi : P .di)
    (onLdHlSpE8 : ∀ e, P (.ld_hl_sp_e8 e))
    (onLdSpHl : P .ld_sp_hl)
    (onLdAMa16 : ∀ nn, P (.ld_a_ma16 nn))
    (onEi : P .ei)
    (i : Instr) : P i :=
  match i with
  | .nop => onNop
  | .ld_bc_d16 _ => ldPair .bc _
  | .ld_mbc_a => onLdMbcA
  | .inc_bc => incPair .bc
  | .inc_b => inc (.reg .b)
  | .dec_b => dec (.reg .b)
  | .ld_b_d8 _ => ldImm .b _
  | .rlca => onRlca
  | .ld_ma16_sp _ => onLdMa16Sp _
  | .add_hl_bc => addHl .bc
  | .ld_a_mbc => onLdAMbc
  | .dec_bc => decPair .bc
  | .inc_c => inc (.reg .c)
  | .dec_c => dec (.reg .c)
  | .ld_c_d8 _ => ldImm .c _
  | .rrca => onRrca
  | .stop => onStop
  | .ld_de_d16 _ => ldPair .de _
  | .ld_mde_a => onLdMdeA
  | .inc_de => incPair .de
  | .inc_d => inc (.reg .d)
  | .dec_d => dec (.reg .d)
  | .ld_d_d8 _ => ldImm .d _
  | .rla => onRla
  | .jr_e8 _ => onJrE8 _
  | .add_hl_de => addHl .de
  | .ld_a_mde => onLdAMde
  | .dec_de => decPair .de
  | .inc_e => inc (.reg .e)
  | .dec_e => dec (.reg .e)
  | .ld_e_d8 _ => ldImm .e _
  | .rra => onRra
  | .jr_nz_e8 _ => jrIf .nz _
  | .ld_hl_d16 _ => ldPair .hl _
  | .ld_mhli_a => onLdMhliA
  | .inc_hl => incPair .hl
  | .inc_h => inc (.reg .h)
  | .dec_h => dec (.reg .h)
  | .ld_h_d8 _ => ldImm .h _
  | .daa => onDaa
  | .jr_z_e8 _ => jrIf .z _
  | .add_hl_hl => addHl .hl
  | .ld_a_mhli => onLdAMhli
  | .dec_hl => decPair .hl
  | .inc_l => inc (.reg .l)
  | .dec_l => dec (.reg .l)
  | .ld_l_d8 _ => ldImm .l _
  | .cpl => onCpl
  | .jr_nc_e8 _ => jrIf .nc _
  | .ld_sp_d16 _ => ldPair .sp _
  | .ld_mhld_a => onLdMhldA
  | .inc_sp => incPair .sp
  | .inc_mhl => inc .mem
  | .dec_mhl => dec .mem
  | .ld_mhl_d8 _ => onLdMhlD8 _
  | .scf => onScf
  | .jr_c_e8 _ => jrIf .c _
  | .add_hl_sp => addHl .sp
  | .ld_a_mhld => onLdAMhld
  | .dec_sp => decPair .sp
  | .inc_a => inc (.reg .a)
  | .dec_a => dec (.reg .a)
  | .ld_a_d8 _ => ldImm .a _
  | .ccf => onCcf
  | .ld_b_b => ld .b .b
  | .ld_b_c => ld .b .c
  | .ld_b_d => ld .b .d
  | .ld_b_e => ld .b .e
  | .ld_b_h => ld .b .h
  | .ld_b_l => ld .b .l
  | .ld_b_mhl => ldFromHl .b
  | .ld_b_a => ld .b .a
  | .ld_c_b => ld .c .b
  | .ld_c_c => ld .c .c
  | .ld_c_d => ld .c .d
  | .ld_c_e => ld .c .e
  | .ld_c_h => ld .c .h
  | .ld_c_l => ld .c .l
  | .ld_c_mhl => ldFromHl .c
  | .ld_c_a => ld .c .a
  | .ld_d_b => ld .d .b
  | .ld_d_c => ld .d .c
  | .ld_d_d => ld .d .d
  | .ld_d_e => ld .d .e
  | .ld_d_h => ld .d .h
  | .ld_d_l => ld .d .l
  | .ld_d_mhl => ldFromHl .d
  | .ld_d_a => ld .d .a
  | .ld_e_b => ld .e .b
  | .ld_e_c => ld .e .c
  | .ld_e_d => ld .e .d
  | .ld_e_e => ld .e .e
  | .ld_e_h => ld .e .h
  | .ld_e_l => ld .e .l
  | .ld_e_mhl => ldFromHl .e
  | .ld_e_a => ld .e .a
  | .ld_h_b => ld .h .b
  | .ld_h_c => ld .h .c
  | .ld_h_d => ld .h .d
  | .ld_h_e => ld .h .e
  | .ld_h_h => ld .h .h
  | .ld_h_l => ld .h .l
  | .ld_h_mhl => ldFromHl .h
  | .ld_h_a => ld .h .a
  | .ld_l_b => ld .l .b
  | .ld_l_c => ld .l .c
  | .ld_l_d => ld .l .d
  | .ld_l_e => ld .l .e
  | .ld_l_h => ld .l .h
  | .ld_l_l => ld .l .l
  | .ld_l_mhl => ldFromHl .l
  | .ld_l_a => ld .l .a
  | .ld_mhl_b => ldToHl .b
  | .ld_mhl_c => ldToHl .c
  | .ld_mhl_d => ldToHl .d
  | .ld_mhl_e => ldToHl .e
  | .ld_mhl_h => ldToHl .h
  | .ld_mhl_l => ldToHl .l
  | .halt => onHalt
  | .ld_mhl_a => ldToHl .a
  | .ld_a_b => ld .a .b
  | .ld_a_c => ld .a .c
  | .ld_a_d => ld .a .d
  | .ld_a_e => ld .a .e
  | .ld_a_h => ld .a .h
  | .ld_a_l => ld .a .l
  | .ld_a_mhl => ldFromHl .a
  | .ld_a_a => ld .a .a
  | .add_a_b => alu .add (.reg .b)
  | .add_a_c => alu .add (.reg .c)
  | .add_a_d => alu .add (.reg .d)
  | .add_a_e => alu .add (.reg .e)
  | .add_a_h => alu .add (.reg .h)
  | .add_a_l => alu .add (.reg .l)
  | .add_a_mhl => alu .add .mem
  | .add_a_a => alu .add (.reg .a)
  | .adc_a_b => alu .adc (.reg .b)
  | .adc_a_c => alu .adc (.reg .c)
  | .adc_a_d => alu .adc (.reg .d)
  | .adc_a_e => alu .adc (.reg .e)
  | .adc_a_h => alu .adc (.reg .h)
  | .adc_a_l => alu .adc (.reg .l)
  | .adc_a_mhl => alu .adc .mem
  | .adc_a_a => alu .adc (.reg .a)
  | .sub_b => alu .sub (.reg .b)
  | .sub_c => alu .sub (.reg .c)
  | .sub_d => alu .sub (.reg .d)
  | .sub_e => alu .sub (.reg .e)
  | .sub_h => alu .sub (.reg .h)
  | .sub_l => alu .sub (.reg .l)
  | .sub_mhl => alu .sub .mem
  | .sub_a => alu .sub (.reg .a)
  | .sbc_a_b => alu .sbc (.reg .b)
  | .sbc_a_c => alu .sbc (.reg .c)
  | .sbc_a_d => alu .sbc (.reg .d)
  | .sbc_a_e => alu .sbc (.reg .e)
  | .sbc_a_h => alu .sbc (.reg .h)
  | .sbc_a_l => alu .sbc (.reg .l)
  | .sbc_a_mhl => alu .sbc .mem
  | .sbc_a_a => alu .sbc (.reg .a)
  | .and_b => alu .and (.reg .b)
  | .and_c => alu .and (.reg .c)
  | .and_d => alu .and (.reg .d)
  | .and_e => alu .and (.reg .e)
  | .and_h => alu .and (.reg .h)
  | .and_l => alu .and (.reg .l)
  | .and_mhl => alu .and .mem
  | .and_a => alu .and (.reg .a)
  | .xor_b => alu .xor (.reg .b)
  | .xor_c => alu .xor (.reg .c)
  | .xor_d => alu .xor (.reg .d)
  | .xor_e => alu .xor (.reg .e)
  | .xor_h => alu .xor (.reg .h)
  | .xor_l => alu .xor (.reg .l)
  | .xor_mhl => alu .xor .mem
  | .xor_a => alu .xor (.reg .a)
  | .or_b => alu .or (.reg .b)
  | .or_c => alu .or (.reg .c)
  | .or_d => alu .or (.reg .d)
  | .or_e => alu .or (.reg .e)
  | .or_h => alu .or (.reg .h)
  | .or_l => alu .or (.reg .l)
  | .or_mhl => alu .or .mem
  | .or_a => alu .or (.reg .a)
  | .cp_b => alu .cp (.reg .b)
  | .cp_c => alu .cp (.reg .c)
  | .cp_d => alu .cp (.reg .d)
  | .cp_e => alu .cp (.reg .e)
  | .cp_h => alu .cp (.reg .h)
  | .cp_l => alu .cp (.reg .l)
  | .cp_mhl => alu .cp .mem
  | .cp_a => alu .cp (.reg .a)
  | .ret_nz => retIf .nz
  | .pop_bc => pop .bc
  | .jp_nz_a16 _ => jpIf .nz _
  | .jp_a16 _ => onJpA16 _
  | .call_nz_a16 _ => callIf .nz _
  | .push_bc => push .bc
  | .add_a_d8 _ => aluImm .add _
  | .rst_00 => rst 0
  | .ret_z => retIf .z
  | .ret => onRet
  | .jp_z_a16 _ => jpIf .z _
  | .cb_prefix _ => onCbPrefix _
  | .call_z_a16 _ => callIf .z _
  | .call_a16 _ => onCallA16 _
  | .adc_a_d8 _ => aluImm .adc _
  | .rst_08 => rst 1
  | .ret_nc => retIf .nc
  | .pop_de => pop .de
  | .jp_nc_a16 _ => jpIf .nc _
  | .illegal_d3 => illegal _ (List.getElem_mem (n := 0) (by decide))
  | .call_nc_a16 _ => callIf .nc _
  | .push_de => push .de
  | .sub_d8 _ => aluImm .sub _
  | .rst_10 => rst 2
  | .ret_c => retIf .c
  | .reti => onReti
  | .jp_c_a16 _ => jpIf .c _
  | .illegal_db => illegal _ (List.getElem_mem (n := 1) (by decide))
  | .call_c_a16 _ => callIf .c _
  | .illegal_dd => illegal _ (List.getElem_mem (n := 2) (by decide))
  | .sbc_a_d8 _ => aluImm .sbc _
  | .rst_18 => rst 3
  | .ldh_ma8_a _ => onLdhMa8A _
  | .pop_hl => pop .hl
  | .ld_mc_a => onLdMcA
  | .illegal_e3 => illegal _ (List.getElem_mem (n := 3) (by decide))
  | .illegal_e4 => illegal _ (List.getElem_mem (n := 4) (by decide))
  | .push_hl => push .hl
  | .and_d8 _ => aluImm .and _
  | .rst_20 => rst 4
  | .add_sp_e8 _ => onAddSpE8 _
  | .jp_hl => onJpHl
  | .ld_ma16_a _ => onLdMa16A _
  | .illegal_eb => illegal _ (List.getElem_mem (n := 5) (by decide))
  | .illegal_ec => illegal _ (List.getElem_mem (n := 6) (by decide))
  | .illegal_ed => illegal _ (List.getElem_mem (n := 7) (by decide))
  | .xor_d8 _ => aluImm .xor _
  | .rst_28 => rst 5
  | .ldh_a_ma8 _ => onLdhAMa8 _
  | .pop_af => pop .af
  | .ld_a_mc => onLdAMc
  | .di => onDi
  | .illegal_f4 => illegal _ (List.getElem_mem (n := 8) (by decide))
  | .push_af => push .af
  | .or_d8 _ => aluImm .or _
  | .rst_30 => rst 6
  | .ld_hl_sp_e8 _ => onLdHlSpE8 _
  | .ld_sp_hl => onLdSpHl
  | .ld_a_ma16 _ => onLdAMa16 _
  | .ei => onEi
  | .illegal_fc => illegal _ (List.getElem_mem (n := 9) (by decide))
  | .illegal_fd => illegal _ (List.getElem_mem (n := 10) (by decide))
  | .cp_d8 _ => aluImm .cp _
  | .rst_38 => rst 7
  | .rlc_b => rot .rlc (.reg .b)
  | .rlc_c => rot .rlc (.reg .c)
  | .rlc_d => rot .rlc (.reg .d)
  | .rlc_e => rot .rlc (.reg .e)
  | .rlc_h => rot .rlc (.reg .h)
  | .rlc_l => rot .rlc (.reg .l)
  | .rlc_mhl => rot .rlc .mem
  | .rlc_a => rot .rlc (.reg .a)
  | .rrc_b => rot .rrc (.reg .b)
  | .rrc_c => rot .rrc (.reg .c)
  | .rrc_d => rot .rrc (.reg .d)
  | .rrc_e => rot .rrc (.reg .e)
  | .rrc_h => rot .rrc (.reg .h)
  | .rrc_l => rot .rrc (.reg .l)
  | .rrc_mhl => rot .rrc .mem
  | .rrc_a => rot .rrc (.reg .a)
  | .rl_b => rot .rl (.reg .b)
  | .rl_c => rot .rl (.reg .c)
  | .rl_d => rot .rl (.reg .d)
  | .rl_e => rot .rl (.reg .e)
  | .rl_h => rot .rl (.reg .h)
  | .rl_l => rot .rl (.reg .l)
  | .rl_mhl => rot .rl .mem
  | .rl_a => rot .rl (.reg .a)
  | .rr_b => rot .rr (.reg .b)
  | .rr_c => rot .rr (.reg .c)
  | .rr_d => rot .rr (.reg .d)
  | .rr_e => rot .rr (.reg .e)
  | .rr_h => rot .rr (.reg .h)
  | .rr_l => rot .rr (.reg .l)
  | .rr_mhl => rot .rr .mem
  | .rr_a => rot .rr (.reg .a)
  | .sla_b => rot .sla (.reg .b)
  | .sla_c => rot .sla (.reg .c)
  | .sla_d => rot .sla (.reg .d)
  | .sla_e => rot .sla (.reg .e)
  | .sla_h => rot .sla (.reg .h)
  | .sla_l => rot .sla (.reg .l)
  | .sla_mhl => rot .sla .mem
  | .sla_a => rot .sla (.reg .a)
  | .sra_b => rot .sra (.reg .b)
  | .sra_c => rot .sra (.reg .c)
  | .sra_d => rot .sra (.reg .d)
  | .sra_e => rot .sra (.reg .e)
  | .sra_h => rot .sra (.reg .h)
  | .sra_l => rot .sra (.reg .l)
  | .sra_mhl => rot .sra .mem
  | .sra_a => rot .sra (.reg .a)
  | .swap_b => rot .swap (.reg .b)
  | .swap_c => rot .swap (.reg .c)
  | .swap_d => rot .swap (.reg .d)
  | .swap_e => rot .swap (.reg .e)
  | .swap_h => rot .swap (.reg .h)
  | .swap_l => rot .swap (.reg .l)
  | .swap_mhl => rot .swap .mem
  | .swap_a => rot .swap (.reg .a)
  | .srl_b => rot .srl (.reg .b)
  | .srl_c => rot .srl (.reg .c)
  | .srl_d => rot .srl (.reg .d)
  | .srl_e => rot .srl (.reg .e)
  | .srl_h => rot .srl (.reg .h)
  | .srl_l => rot .srl (.reg .l)
  | .srl_mhl => rot .srl .mem
  | .srl_a => rot .srl (.reg .a)
  | .bit_0_b => bit 0 (.reg .b)
  | .bit_0_c => bit 0 (.reg .c)
  | .bit_0_d => bit 0 (.reg .d)
  | .bit_0_e => bit 0 (.reg .e)
  | .bit_0_h => bit 0 (.reg .h)
  | .bit_0_l => bit 0 (.reg .l)
  | .bit_0_mhl => bit 0 .mem
  | .bit_0_a => bit 0 (.reg .a)
  | .bit_1_b => bit 1 (.reg .b)
  | .bit_1_c => bit 1 (.reg .c)
  | .bit_1_d => bit 1 (.reg .d)
  | .bit_1_e => bit 1 (.reg .e)
  | .bit_1_h => bit 1 (.reg .h)
  | .bit_1_l => bit 1 (.reg .l)
  | .bit_1_mhl => bit 1 .mem
  | .bit_1_a => bit 1 (.reg .a)
  | .bit_2_b => bit 2 (.reg .b)
  | .bit_2_c => bit 2 (.reg .c)
  | .bit_2_d => bit 2 (.reg .d)
  | .bit_2_e => bit 2 (.reg .e)
  | .bit_2_h => bit 2 (.reg .h)
  | .bit_2_l => bit 2 (.reg .l)
  | .bit_2_mhl => bit 2 .mem
  | .bit_2_a => bit 2 (.reg .a)
  | .bit_3_b => bit 3 (.reg .b)
  | .bit_3_c => bit 3 (.reg .c)
  | .bit_3_d => bit 3 (.reg .d)
  | .bit_3_e => bit 3 (.reg .e)
  | .bit_3_h => bit 3 (.reg .h)
  | .bit_3_l => bit 3 (.reg .l)
  | .bit_3_mhl => bit 3 .mem
  | .bit_3_a => bit 3 (.reg .a)
  | .bit_4_b => bit 4 (.reg .b)
  | .bit_4_c => bit 4 (.reg .c)
  | .bit_4_d => bit 4 (.reg .d)
  | .bit_4_e => bit 4 (.reg .e)
  | .bit_4_h => bit 4 (.reg .h)
  | .bit_4_l => bit 4 (.reg .l)
  | .bit_4_mhl => bit 4 .mem
  | .bit_4_a => bit 4 (.reg .a)
  | .bit_5_b => bit 5 (.reg .b)
  | .bit_5_c => bit 5 (.reg .c)
  | .bit_5_d => bit 5 (.reg .d)
  | .bit_5_e => bit 5 (.reg .e)
  | .bit_5_h => bit 5 (.reg .h)
  | .bit_5_l => bit 5 (.reg .l)
  | .bit_5_mhl => bit 5 .mem
  | .bit_5_a => bit 5 (.reg .a)
  | .bit_6_b => bit 6 (.reg .b)
  | .bit_6_c => bit 6 (.reg .c)
  | .bit_6_d => bit 6 (.reg .d)
  | .bit_6_e => bit 6 (.reg .e)
  | .bit_6_h => bit 6 (.reg .h)
  | .bit_6_l => bit 6 (.reg .l)
  | .bit_6_mhl => bit 6 .mem
  | .bit_6_a => bit 6 (.reg .a)
  | .bit_7_b => bit 7 (.reg .b)
  | .bit_7_c => bit 7 (.reg .c)
  | .bit_7_d => bit 7 (.reg .d)
  | .bit_7_e => bit 7 (.reg .e)
  | .bit_7_h => bit 7 (.reg .h)
  | .bit_7_l => bit 7 (.reg .l)
  | .bit_7_mhl => bit 7 .mem
  | .bit_7_a => bit 7 (.reg .a)
  | .res_0_b => res 0 (.reg .b)
  | .res_0_c => res 0 (.reg .c)
  | .res_0_d => res 0 (.reg .d)
  | .res_0_e => res 0 (.reg .e)
  | .res_0_h => res 0 (.reg .h)
  | .res_0_l => res 0 (.reg .l)
  | .res_0_mhl => res 0 .mem
  | .res_0_a => res 0 (.reg .a)
  | .res_1_b => res 1 (.reg .b)
  | .res_1_c => res 1 (.reg .c)
  | .res_1_d => res 1 (.reg .d)
  | .res_1_e => res 1 (.reg .e)
  | .res_1_h => res 1 (.reg .h)
  | .res_1_l => res 1 (.reg .l)
  | .res_1_mhl => res 1 .mem
  | .res_1_a => res 1 (.reg .a)
  | .res_2_b => res 2 (.reg .b)
  | .res_2_c => res 2 (.reg .c)
  | .res_2_d => res 2 (.reg .d)
  | .res_2_e => res 2 (.reg .e)
  | .res_2_h => res 2 (.reg .h)
  | .res_2_l => res 2 (.reg .l)
  | .res_2_mhl => res 2 .mem
  | .res_2_a => res 2 (.reg .a)
  | .res_3_b => res 3 (.reg .b)
  | .res_3_c => res 3 (.reg .c)
  | .res_3_d => res 3 (.reg .d)
  | .res_3_e => res 3 (.reg .e)
  | .res_3_h => res 3 (.reg .h)
  | .res_3_l => res 3 (.reg .l)
  | .res_3_mhl => res 3 .mem
  | .res_3_a => res 3 (.reg .a)
  | .res_4_b => res 4 (.reg .b)
  | .res_4_c => res 4 (.reg .c)
  | .res_4_d => res 4 (.reg .d)
  | .res_4_e => res 4 (.reg .e)
  | .res_4_h => res 4 (.reg .h)
  | .res_4_l => res 4 (.reg .l)
  | .res_4_mhl => res 4 .mem
  | .res_4_a => res 4 (.reg .a)
  | .res_5_b => res 5 (.reg .b)
  | .res_5_c => res 5 (.reg .c)
  | .res_5_d => res 5 (.reg .d)
  | .res_5_e => res 5 (.reg .e)
  | .res_5_h => res 5 (.reg .h)
  | .res_5_l => res 5 (.reg .l)
  | .res_5_mhl => res 5 .mem
  | .res_5_a => res 5 (.reg .a)
  | .res_6_b => res 6 (.reg .b)
  | .res_6_c => res 6 (.reg .c)
  | .res_6_d => res 6 (.reg .d)
  | .res_6_e => res 6 (.reg .e)
  | .res_6_h => res 6 (.reg .h)
  | .res_6_l => res 6 (.reg .l)
  | .res_6_mhl => res 6 .mem
  | .res_6_a => res 6 (.reg .a)
  | .res_7_b => res 7 (.reg .b)
  | .res_7_c => res 7 (.reg .c)
  | .res_7_d => res 7 (.reg .d)
  | .res_7_e => res 7 (.reg .e)
  | .res_7_h => res 7 (.reg .h)
  | .res_7_l => res 7 (.reg .l)
  | .res_7_mhl => res 7 .mem
  | .res_7_a => res 7 (.reg .a)
  | .set_0_b => set 0 (.reg .b)
  | .set_0_c => set 0 (.reg .c)
  | .set_0_d => set 0 (.reg .d)
  | .set_0_e => set 0 (.reg .e)
  | .set_0_h => set 0 (.reg .h)
  | .set_0_l => set 0 (.reg .l)
  | .set_0_mhl => set 0 .mem
  | .set_0_a => set 0 (.reg .a)
  | .set_1_b => set 1 (.reg .b)
  | .set_1_c => set 1 (.reg .c)
  | .set_1_d => set 1 (.reg .d)
  | .set_1_e => set 1 (.reg .e)
  | .set_1_h => set 1 (.reg .h)
  | .set_1_l => set 1 (.reg .l)
  | .set_1_mhl => set 1 .mem
  | .set_1_a => set 1 (.reg .a)
  | .set_2_b => set 2 (.reg .b)
  | .set_2_c => set 2 (.reg .c)
  | .set_2_d => set 2 (.reg .d)
  | .set_2_e => set 2 (.reg .e)
  | .set_2_h => set 2 (.reg .h)
  | .set_2_l => set 2 (.reg .l)
  | .set_2_mhl => set 2 .mem
  | .set_2_a => set 2 (.reg .a)
  | .set_3_b => set 3 (.reg .b)
  | .set_3_c => set 3 (.reg .c)
  | .set_3_d => set 3 (.reg .d)
  | .set_3_e => set 3 (.reg .e)
  | .set_3_h => set 3 (.reg .h)
  | .set_3_l => set 3 (.reg .l)
  | .set_3_mhl => set 3 .mem
  | .set_3_a => set 3 (.reg .a)
  | .set_4_b => set 4 (.reg .b)
  | .set_4_c => set 4 (.reg .c)
  | .set_4_d => set 4 (.reg .d)
  | .set_4_e => set 4 (.reg .e)
  | .set_4_h => set 4 (.reg .h)
  | .set_4_l => set 4 (.reg .l)
  | .set_4_mhl => set 4 .mem
  | .set_4_a => set 4 (.reg .a)
  | .set_5_b => set 5 (.reg .b)
  | .set_5_c => set 5 (.reg .c)
  | .set_5_d => set 5 (.reg .d)
  | .set_5_e => set 5 (.reg .e)
  | .set_5_h => set 5 (.reg .h)
  | .set_5_l => set 5 (.reg .l)
  | .set_5_mhl => set 5 .mem
  | .set_5_a => set 5 (.reg .a)
  | .set_6_b => set 6 (.reg .b)
  | .set_6_c => set 6 (.reg .c)
  | .set_6_d => set 6 (.reg .d)
  | .set_6_e => set 6 (.reg .e)
  | .set_6_h => set 6 (.reg .h)
  | .set_6_l => set 6 (.reg .l)
  | .set_6_mhl => set 6 .mem
  | .set_6_a => set 6 (.reg .a)
  | .set_7_b => set 7 (.reg .b)
  | .set_7_c => set 7 (.reg .c)
  | .set_7_d => set 7 (.reg .d)
  | .set_7_e => set 7 (.reg .e)
  | .set_7_h => set 7 (.reg .h)
  | .set_7_l => set 7 (.reg .l)
  | .set_7_mhl => set 7 .mem
  | .set_7_a => set 7 (.reg .a)

end Sys2Proof.Laws
end

