-- ==== Sys2Proof/Laws/Exec.lean ====
section
/-! SUPPORT. One lemma per group of rows: which shared operation `exec` runs, with the fields as arguments. -/

namespace Sys2Proof.Laws

open Sys2Proof Sys2Proof.Machine

/-- The cycles of a one-byte form with an 8-bit operand: `r` for a register, `m` for (HL). -/
def opndCycles (r m : Nat) : Opnd → Nat
  | .reg _ => r
  | .mem => m

theorem exec_ldOf (dst r : Reg8) (s : State) : exec (.ldOf dst r) s = opLd dst r 4 s := by
  cases dst <;> cases r <;> rfl

theorem exec_ldImmOf (dst : Reg8) (n : Byte) (s : State) : exec (.ldImmOf dst n) s = opLdImm dst n 8 s := by
  cases dst <;> rfl

theorem exec_ldFromHlOf (dst : Reg8) (s : State) : exec (.ldFromHlOf dst) s = opLoad dst .hl 8 s := by
  cases dst <;> rfl

theorem exec_ldToHlOf (r : Reg8) (s : State) : exec (.ldToHlOf r) s = opStore .hl r 8 s := by
  cases r <;> rfl

theorem exec_ldPairOf (p : Pair) (nn : Word) (s : State) : exec (.ldPairOf p nn) s = opLdPair p nn 12 s := by
  cases p <;> rfl

theorem exec_popOf (p : StackPair) (s : State) : exec (.popOf p) s = opPop p 12 s := by
  cases p <;> rfl

theorem exec_pushOf (p : StackPair) (s : State) : exec (.pushOf p) s = opPush p 16 s := by
  cases p <;> rfl

theorem exec_aluOf (op : AluOp) (o : Opnd) (s : State) :
    exec (.aluOf op o) s = opAlu op o (opndCycles 4 8 o) s := by
  cases op <;> rcases o with r | _ <;> first | rfl | (cases r <;> rfl)

theorem exec_aluImmOf (op : AluOp) (n : Byte) (s : State) : exec (.aluImmOf op n) s = opAluImm op n 8 s := by
  cases op <;> rfl

theorem exec_incOf (o : Opnd) (s : State) : exec (.incOf o) s = opInc o (opndCycles 4 12 o) s := by
  rcases o with r | _ <;> first | rfl | (cases r <;> rfl)

theorem exec_decOf (o : Opnd) (s : State) : exec (.decOf o) s = opDec o (opndCycles 4 12 o) s := by
  rcases o with r | _ <;> first | rfl | (cases r <;> rfl)

theorem exec_addHlOf (p : Pair) (s : State) : exec (.addHlOf p) s = opAddHl p 8 s := by
  cases p <;> rfl

theorem exec_incPairOf (p : Pair) (s : State) : exec (.incPairOf p) s = opIncPair p 8 s := by
  cases p <;> rfl

theorem exec_decPairOf (p : Pair) (s : State) : exec (.decPairOf p) s = opDecPair p 8 s := by
  cases p <;> rfl

theorem exec_rotOf (op : RotOp) (o : Opnd) (s : State) :
    exec (.rotOf op o) s = opRot op o (opndCycles 8 16 o) s := by
  cases op <;> rcases o with r | _ <;> first | rfl | (cases r <;> rfl)

theorem exec_bitOf (b : Fin 8) (o : Opnd) (s : State) :
    exec (.bitOf b o) s = opBit b o (opndCycles 8 12 o) s := by
  fin_cases b <;> rcases o with r | _ <;> first | rfl | (cases r <;> rfl)

theorem exec_resOf (b : Fin 8) (o : Opnd) (s : State) :
    exec (.resOf b o) s = opRes b o (opndCycles 8 16 o) s := by
  fin_cases b <;> rcases o with r | _ <;> first | rfl | (cases r <;> rfl)

theorem exec_setOf (b : Fin 8) (o : Opnd) (s : State) :
    exec (.setOf b o) s = opSet b o (opndCycles 8 16 o) s := by
  fin_cases b <;> rcases o with r | _ <;> first | rfl | (cases r <;> rfl)

theorem exec_jpIfOf (cc : Cond) (nn : Word) (s : State) : exec (.jpIfOf cc nn) s = opJpCond cc nn 16 12 s := by
  cases cc <;> rfl

theorem exec_jrIfOf (cc : Cond) (e : Byte) (s : State) : exec (.jrIfOf cc e) s = opJrCond cc e 12 8 s := by
  cases cc <;> rfl

theorem exec_callIfOf (cc : Cond) (nn : Word) (s : State) :
    exec (.callIfOf cc nn) s = opCallCond cc nn 24 12 s := by
  cases cc <;> rfl

theorem exec_retIfOf (cc : Cond) (s : State) : exec (.retIfOf cc) s = opRetCond cc 20 8 s := by
  cases cc <;> rfl

theorem exec_rstOf (y : Fin 8) (s : State) :
    exec (.rstOf y) s = opRst (BitVec.ofNat 16 (8 * y.val)) 16 s := by
  fin_cases y <;> rfl

theorem exec_illegal (r : Byte × Instr) (h : r ∈ illegalRows) (s : State) : exec r.2 s = opIllegal r.1 s := by
  simp only [illegalRows, List.mem_cons, List.not_mem_nil, or_false] at h
  rcases h with rfl | rfl | rfl | rfl | rfl | rfl | rfl | rfl | rfl | rfl | rfl <;> rfl

end Sys2Proof.Laws
end

