-- ==== Sys2Proof/Laws/Flags.lean ====
section
/-! SUPPORT. The flags of F after each write, and the operands and results in the spec's own terms. -/

namespace Sys2Proof.Machine

open Sys2Proof

/-- A high-page address (40_loads.md R149). -/
theorem highPage_eq (n : Byte) : highPage n = 0xFF00#16 + n.setWidth 16 := by
  unfold highPage wordOf
  revert n; decide

/-- The four flags of a packed byte. -/
theorem packF_flags (z n h c : Bool) :
    (packF z n h c &&& 0xF0#8).getLsbD 7 = z ∧ (packF z n h c &&& 0xF0#8).getLsbD 6 = n ∧
    (packF z n h c &&& 0xF0#8).getLsbD 5 = h ∧ (packF z n h c &&& 0xF0#8).getLsbD 4 = c ∧
    packF z n h c &&& 0xF0#8 &&& 0x0F#8 = 0#8 := by
  revert z n h c; decide

/-- A state whose F was packed has those flags. -/
theorem flagsAre_of_f {z n h c : Bool} {t : State} (e : t.cpu.f = packF z n h c &&& 0xF0#8) :
    FlagsAre z n h c t := by
  have p := packF_flags z n h c
  unfold FlagsAre State.flagZ State.flagN State.flagH State.flagC
  rw [e]
  exact p

@[simp] theorem State.setFlags_f (s : State) (z n h c : Bool) :
    (s.setFlags z n h c).cpu.f = packF z n h c &&& 0xF0#8 := rfl

theorem and_f0_low (v : Byte) : v &&& 0xF0#8 &&& 0x0F#8 = 0#8 := by
  revert v; decide

theorem and_0f_toNat (v : Byte) : (v &&& 0x0F#8).toNat = v.toNat % 16 := by
  revert v; decide

theorem halfAdd_eq (old new : Byte) : halfAdd old new = decide (new.toNat % 16 < old.toNat % 16) := by
  simp only [halfAdd, and_0f_toNat]

theorem halfSub_eq (old new : Byte) : halfSub old new = decide (old.toNat % 16 < new.toNat % 16) := by
  simp only [halfSub, and_0f_toNat]

/-- The condition by the flag it tests (30_encoding.md R118). -/
theorem cond_eq (s : State) (cc : Cond) : s.cond cc = condHolds cc s := by
  cases cc <;> simp [State.cond, condHolds, State.flagZ, State.flagC]

theorem carryIn_eq (s : State) : s.carryIn = if s.flagC then 1#8 else 0#8 := rfl

/-- Sign extension and a signed sum (00_scope.md R11). -/
theorem add_sext16 (w : Word) (e : Byte) : w + sext16 e = BitVec.ofInt 16 (w.toNat + e.toInt) := by
  apply BitVec.eq_of_toInt_eq
  simp only [sext16, BitVec.toInt_add, BitVec.toInt_signExtend, BitVec.toInt_ofInt]
  have h1 := BitVec.toInt_eq_toNat_bmod w
  have h2 : (e.toInt).bmod (2 ^ min 16 8) = e.toInt := by
    have := BitVec.toInt_bmod_cancel e
    simpa using this
  rw [h1, h2, Int.bmod_add_bmod]

/-- Rotates and shifts on numbers (43_rotate_shift_bit.md R275-R282). -/
theorem rotResult_eq (op : RotOp) (v : Byte) (c : Bool) :
    rotResult op v c =
      (BitVec.ofNat 8 (rotatedValue op v.toNat (if c then 1 else 0)).1,
       (rotatedValue op v.toNat (if c then 1 else 0)).2) := by
  cases op <;> revert v c <;> decide

end Sys2Proof.Machine
end

