-- ==== Sys2Proof/Laws/Write.lean ====
section
/-! SUPPORT. What a bus write leaves alone, and reading after it. -/

namespace Sys2Proof.Machine

open Sys2Proof

/-- What a write can do: nothing, store in RAM, select a bank, write IE, program the timer, act on the sound
unit, or send a diagnostic. -/
theorem memWrite_cases (s : State) (a : Word) (v : Byte) :
    (s.memWrite a v = s ∧ ¬ IsStored a) ∨
    (IsRam a ∧ s.memWrite a v = { s with bus := { s.bus with mem := Memory.write s.bus.mem a.toNat v } }) ∨
    (IsBankSelect a ∧ s.memWrite a v = s.selectBank v) ∨
    (a = 0xFFFF#16 ∧ s.memWrite a v = { s with bus := { s.bus with ie := v } }) ∨
    (a = 0xFF06#16 ∧ s.memWrite a v = State.reprogramTimer { s with bus := { s.bus with tma := v } }) ∨
    (a = 0xFF07#16 ∧ s.memWrite a v = State.reprogramTimer { s with bus := { s.bus with tac := v } }) ∨
    (IsSoundReg a ∧ s.memWrite a v = s.writeSound a v) ∨
    (IsUnimplemented a ∧ s.memWrite a v = s.note (.diag (.unimplementedWrite a v))) := by
  have hs : a.toNat < 0x2000 ∨ IsBankWindow a ∨ (0x8000 ≤ a.toNat ∧ a.toNat < 0xA000) ∨
      (0xE000 ≤ a.toNat ∧ a.toNat < 0xFF00) ∨ IsCounter a → ¬ IsStored a := by
    intro h
    rw [IsStored, isTimerReg_iff, ← BitVec.toNat_inj]
    simp only [IsRam, IsSoundReg, BitVec.toNat_ofNat, Nat.reducePow, Nat.reduceMod]
    rw [isCounter_iff] at h
    unfold IsBankWindow at h
    omega
  rcases addrKind a with h | h | h | h | h | h | h | h | h | h
  · exact .inl ⟨memWrite_ignored s v (.inl h), hs (.inl h)⟩
  · exact .inr (.inr (.inl ⟨h, memWrite_bankSelect s v h⟩))
  · exact .inl ⟨memWrite_ignored s v (.inr (.inl h)), hs (.inr (.inl h))⟩
  · have h' : a.toNat < 0x2000 ∨ IsBankWindow a ∨ (0x8000 ≤ a.toNat ∧ a.toNat < 0xA000) ∨
        (0xE000 ≤ a.toNat ∧ a.toNat < 0xFF00) ∨ IsCounter a := by tauto
    exact .inl ⟨memWrite_ignored s v h', hs h'⟩
  · exact .inr (.inl ⟨h, memWrite_ram s v h⟩)
  · have h' : a.toNat < 0x2000 ∨ IsBankWindow a ∨ (0x8000 ≤ a.toNat ∧ a.toNat < 0xA000) ∨
        (0xE000 ≤ a.toNat ∧ a.toNat < 0xFF00) ∨ IsCounter a := by tauto
    exact .inl ⟨memWrite_ignored s v h', hs h'⟩
  · rcases h with rfl | rfl
    · exact .inr (.inr (.inr (.inr (.inl ⟨rfl, memWrite_tma s v⟩))))
    · exact .inr (.inr (.inr (.inr (.inr (.inl ⟨rfl, memWrite_tac s v⟩)))))
  · exact .inr (.inr (.inr (.inr (.inr (.inr (.inl ⟨h, memWrite_sound s v h⟩))))))
  · subst h; exact .inr (.inr (.inr (.inl ⟨rfl, memWrite_ie s v⟩)))
  · exact .inr (.inr (.inr (.inr (.inr (.inr (.inr ⟨h, memWrite_unimplemented s v h⟩))))))

/-! ### Fields -/

theorem warnClamp_eq (s : State) : ∃ e w,
    s.warnClamp = { s with host := { s.host with events := e, bankClampWarned := w } } := by
  unfold State.warnClamp
  split
  · exact ⟨s.host.events, s.host.bankClampWarned, rfl⟩
  · exact ⟨_, _, rfl⟩

theorem selectBank_eq (s : State) (v : Byte) : ∃ e w, s.selectBank v =
    { s with
      bus := { s.bus with romBank := selectedBank s.bus.bankCount v }
      host := { s.host with events := e, bankClampWarned := w } } := by
  unfold State.selectBank
  simp only
  split
  · obtain ⟨e, w, h⟩ := warnClamp_eq { s with bus := { s.bus with romBank := selectedBank s.bus.bankCount v } }
    exact ⟨e, w, h⟩
  · exact ⟨s.host.events, s.host.bankClampWarned, rfl⟩

theorem reprogramTimer_eq (s : State) : s.reprogramTimer =
    { s with timers := { s.timers with
      timerPeriod := timerPeriodOf s.bus.tma s.bus.tac
      timerCtr := (timerPeriodOf s.bus.tma s.bus.tac : Int) } } := rfl

theorem writeSound_eq (s : State) (a : Word) (v : Byte) : ∃ e, s.writeSound a v =
    { s with snd := s.snd.write (lowOf a) v, host := { s.host with events := e } } := by
  unfold State.writeSound State.observe
  split
  · exact ⟨_, rfl⟩
  · exact ⟨s.host.events, rfl⟩

/-- Each write leaves these fields alone, whatever the address. -/
theorem memWrite_fields (s : State) (a : Word) (v : Byte) :
    (s.memWrite a v).cpu = s.cpu ∧ (s.memWrite a v).sessionCycles = s.sessionCycles ∧
    (s.memWrite a v).cycles = s.cycles ∧ (s.memWrite a v).draws = s.draws ∧
    (s.memWrite a v).bus.rom = s.bus.rom ∧ (s.memWrite a v).bus.bankCount = s.bus.bankCount ∧
    (s.memWrite a v).timers.vblankCtr = s.timers.vblankCtr := by
  rcases memWrite_cases s a v with ⟨h, -⟩ | ⟨-, h⟩ | ⟨-, h⟩ | ⟨-, h⟩ | ⟨-, h⟩ | ⟨-, h⟩ | ⟨-, h⟩ | ⟨-, h⟩
  · simp [h]
  · simp [h]
  · obtain ⟨e, w, h'⟩ := selectBank_eq s v
    simp [h, h']
  · simp [h]
  · simp [h, reprogramTimer_eq]
  · simp [h, reprogramTimer_eq]
  · obtain ⟨e, h'⟩ := writeSound_eq s a v
    simp [h, h']
  · rw [h]; simp [State.note]

@[simp] theorem State.memWrite_cpu (s : State) (a : Word) (v : Byte) : (s.memWrite a v).cpu = s.cpu :=
  (memWrite_fields s a v).1
@[simp] theorem State.memWrite_reg8 (s : State) (a : Word) (v : Byte) (q : Reg8) :
    (s.memWrite a v).reg8 q = s.reg8 q := by
  cases q <;> simp [State.reg8]
@[simp] theorem State.memWrite_hl (s : State) (a : Word) (v : Byte) : (s.memWrite a v).hl = s.hl := by
  simp [State.hl]
@[simp] theorem State.memWrite_flagC (s : State) (a : Word) (v : Byte) : (s.memWrite a v).flagC = s.flagC := by
  simp [State.flagC]
@[simp] theorem State.memWrite_sessionCycles (s : State) (a : Word) (v : Byte) :
    (s.memWrite a v).sessionCycles = s.sessionCycles := (memWrite_fields s a v).2.1
@[simp] theorem State.memWrite_cycles (s : State) (a : Word) (v : Byte) :
    (s.memWrite a v).cycles = s.cycles := (memWrite_fields s a v).2.2.1
@[simp] theorem State.memWrite_draws (s : State) (a : Word) (v : Byte) :
    (s.memWrite a v).draws = s.draws := (memWrite_fields s a v).2.2.2.1
@[simp] theorem State.memWrite_rom (s : State) (a : Word) (v : Byte) :
    (s.memWrite a v).bus.rom = s.bus.rom := (memWrite_fields s a v).2.2.2.2.1
@[simp] theorem State.memWrite_bankCount (s : State) (a : Word) (v : Byte) :
    (s.memWrite a v).bus.bankCount = s.bus.bankCount := (memWrite_fields s a v).2.2.2.2.2.1
@[simp] theorem State.memWrite_vblankCtr (s : State) (a : Word) (v : Byte) :
    (s.memWrite a v).timers.vblankCtr = s.timers.vblankCtr := (memWrite_fields s a v).2.2.2.2.2.2

/-- A register write never changes the byte store of another register. -/
theorem Sound.writeAction_regs (s : Sound) (a : Nat) (v : Byte) : (s.writeAction a v).regs = s.regs := by
  unfold Sound.writeAction
  split <;> rfl

@[simp] theorem Sound.write_regs (s : Sound) (a : Nat) (v : Byte) :
    (s.write a v).regs = Memory.write s.regs a v := Sound.writeAction_regs _ _ _

/-- A write changes `rom_bank` only in the bank-select range, the countdown of the timer only at TMA and
TAC, and the sound unit only at its registers. -/
theorem memWrite_romBank (s : State) {a : Word} (v : Byte) (ha : ¬ IsBankSelect a) :
    (s.memWrite a v).bus.romBank = s.bus.romBank := by
  rcases memWrite_cases s a v with ⟨h, -⟩ | ⟨-, h⟩ | ⟨h', -⟩ | ⟨-, h⟩ | ⟨-, h⟩ | ⟨-, h⟩ | ⟨-, h⟩ | ⟨-, h⟩
  case inr.inr.inl => exact absurd h' ha
  case inr.inr.inr.inr.inr.inr.inl =>
    obtain ⟨e, h'⟩ := writeSound_eq s a v
    simp [h, h']
  all_goals rw [h]
  all_goals rfl

theorem memWrite_timers (s : State) {a : Word} (v : Byte) (ha : ¬ IsTimerReg a) :
    (s.memWrite a v).timers = s.timers := by
  rcases memWrite_cases s a v with ⟨h, -⟩ | ⟨-, h⟩ | ⟨-, h⟩ | ⟨-, h⟩ | ⟨h', -⟩ | ⟨h', -⟩ | ⟨-, h⟩ | ⟨-, h⟩
  case inr.inr.inl =>
    obtain ⟨e, w, h'⟩ := selectBank_eq s v
    simp [h, h']
  case inr.inr.inr.inr.inl => exact absurd (.inl h') ha
  case inr.inr.inr.inr.inr.inl => exact absurd (.inr h') ha
  case inr.inr.inr.inr.inr.inr.inl =>
    obtain ⟨e, h'⟩ := writeSound_eq s a v
    simp [h, h']
  all_goals rw [h]
  all_goals rfl

theorem memWrite_snd (s : State) {a : Word} (v : Byte) (ha : ¬ IsSoundReg a) :
    (s.memWrite a v).snd = s.snd := by
  rcases memWrite_cases s a v with ⟨h, -⟩ | ⟨-, h⟩ | ⟨-, h⟩ | ⟨-, h⟩ | ⟨-, h⟩ | ⟨-, h⟩ | ⟨h', -⟩ | ⟨-, h⟩
  case inr.inr.inl =>
    obtain ⟨e, w, h'⟩ := selectBank_eq s v
    simp [h, h']
  case inr.inr.inr.inr.inr.inr.inl => exact absurd h' ha
  all_goals rw [h]
  all_goals rfl

/-! ### Reading after writing -/

/-- A byte written to an address that stores bytes reads back. -/
theorem peek_memWrite_same (s : State) {a : Word} (v : Byte) (h : IsStored a) : (s.memWrite a v).peek a = v := by
  rcases h with h | (rfl | rfl) | h | rfl
  · rw [memWrite_ram s v h, peek_ram _ h]; simp
  · rfl
  · rfl
  · obtain ⟨e, h'⟩ := writeSound_eq s a v
    rw [memWrite_sound s v h, h', peek_sound _ h]
    simp [(sound_reg h).2.2]
  · rfl

/-- A write leaves every other address as it read, but for the window of a bank select. -/
theorem peek_memWrite_other (s : State) {a b : Word} (v : Byte) (hb : b ≠ a)
    (hw : IsBankSelect a → ¬ IsBankWindow b) : (s.memWrite a v).peek b = s.peek b := by
  have hn : b.toNat ≠ a.toNat := fun e => hb (BitVec.eq_of_toNat_eq e)
  rcases memWrite_cases s a v with
    ⟨h, -⟩ | ⟨ha, h⟩ | ⟨ha, h⟩ | ⟨ha, h⟩ | ⟨ha, h⟩ | ⟨ha, h⟩ | ⟨ha, h⟩ | ⟨ha, h⟩
  · rw [h]
  · rw [h]
    simp only [State.peek, State.peekIo, Memory.read_write_other _ _ hn]
  · obtain ⟨e, w, h'⟩ := selectBank_eq s v
    rw [h, h']
    unfold State.peek
    split
    case h_2 hr =>
      refine absurd ?_ (hw ha)
      rw [regionOf_eq] at hr
      unfold IsBankWindow
      repeat' split at hr
      all_goals first | omega | cases hr
    all_goals rfl
  · subst ha
    rw [h]
    unfold State.peek
    split
    case h_5 hr =>
      unfold State.peekIo
      split
      case h_6 hi =>
        rw [ioReg_low b (io_page hr)] at hi
        repeat' split at hi
        all_goals first | (exact absurd ‹_› hn) | cases hi
      all_goals rfl
    all_goals rfl
  · subst ha
    rw [h]
    unfold State.peek
    split
    case h_5 hr =>
      unfold State.peekIo
      split
      case h_2 hi =>
        rw [ioReg_low b (io_page hr)] at hi
        repeat' split at hi
        all_goals first | (exact absurd ‹_› hn) | cases hi
      all_goals rfl
    all_goals rfl
  · subst ha
    rw [h]
    unfold State.peek
    split
    case h_5 hr =>
      unfold State.peekIo
      split
      case h_3 hi =>
        rw [ioReg_low b (io_page hr)] at hi
        repeat' split at hi
        all_goals first | (exact absurd ‹_› hn) | cases hi
      all_goals rfl
    all_goals rfl
  · obtain ⟨e, h'⟩ := writeSound_eq s a v
    rw [h, h']
    unfold State.peek
    split
    case h_5 hr =>
      unfold State.peekIo
      split
      case h_4 hi =>
        have hl : lowOf b ≠ lowOf a := by
          have := io_page hr
          have := (sound_reg ha).2.2
          have := b.isLt
          unfold IsSoundReg at ha
          unfold lowOf at *
          omega
        simp [Memory.read_write_other _ _ hl]
      all_goals rfl
    all_goals rfl
  · rw [h]
    exact peek_congr rfl rfl rfl b

/-- The frame of one write. -/
theorem storesOnlyAt_memWrite (s : State) (a : Word) (v : Byte) : StoresOnlyAt [a] s (s.memWrite a v) := by
  refine ⟨fun b hb _ hw => peek_memWrite_other s v (by simpa using hb) fun h => hw ⟨a, by simp, h⟩,
    by simp, by simp, fun h => memWrite_romBank s v (h a (by simp)),
    fun h => memWrite_timers s v (h a (by simp)), fun h => memWrite_snd s v (h a (by simp)), by simp⟩

/-- Frames of stores compose. -/
theorem StoresOnlyAt.trans {l k : List Word} {s t u : State} (h : StoresOnlyAt l s t) (h' : StoresOnlyAt k t u) :
    StoresOnlyAt (l ++ k) s u := by
  obtain ⟨p, rom, bank, romBank, timers, snd, cyc⟩ := h
  obtain ⟨p', rom', bank', romBank', timers', snd', cyc'⟩ := h'
  refine ⟨fun b hb hc hw => ?_, rom'.trans rom, bank'.trans bank,
    fun h => (romBank' fun a ha => h a (List.mem_append_right l ha)).trans
      (romBank fun a ha => h a (List.mem_append_left k ha)),
    fun h => (timers' fun a ha => h a (List.mem_append_right l ha)).trans
      (timers fun a ha => h a (List.mem_append_left k ha)),
    fun h => (snd' fun a ha => h a (List.mem_append_right l ha)).trans
      (snd fun a ha => h a (List.mem_append_left k ha)), cyc'.trans cyc⟩
  rw [List.mem_append, not_or] at hb
  rw [p' b hb.2 hc fun ⟨a, ha, e⟩ => hw ⟨a, List.mem_append.mpr (.inr ha), e⟩,
    p b hb.1 hc fun ⟨a, ha, e⟩ => hw ⟨a, List.mem_append.mpr (.inl ha), e⟩]

/-- The frame of stores in terms of what it depends on. -/
theorem StoresOnlyAt.congr {l : List Word} {s t s' t' : State} (h : StoresOnlyAt l s t)
    (hs : s'.bus = s.bus ∧ s'.timers = s.timers ∧ s'.snd = s.snd ∧ s'.sessionCycles = s.sessionCycles)
    (ht : t'.bus = t.bus ∧ t'.timers = t.timers ∧ t'.snd = t.snd ∧ t'.sessionCycles = t.sessionCycles) :
    StoresOnlyAt l s' t' := by
  obtain ⟨p, rom, bank, romBank, timers, snd, cyc⟩ := h
  obtain ⟨s1, s2, s3, s4⟩ := hs
  obtain ⟨t1, t2, t3, t4⟩ := ht
  refine ⟨fun b hb hc hw => ?_, ?_, ?_, ?_, ?_, ?_, ?_⟩
  · rw [peek_congr_off_counters t1 (by rw [t3]) hc, p b hb hc hw,
      ← peek_congr_off_counters s1 (by rw [s3]) hc]
  · rw [t1, s1, rom]
  · rw [t1, s1, bank]
  · rw [t1, s1]; exact romBank
  · rw [t2, s2]; exact timers
  · rw [t3, s3]; exact snd
  · rw [t4, s4, cyc]

end Sys2Proof.Machine
end

