-- ==== Sys2Proof/Laws/Ops.lean ====
section
/-! SUPPORT. What each shared operation does: the stack, the operands, interrupt delivery and the return. -/

namespace Sys2Proof.Machine

open Sys2Proof

/-! ### The bus does not depend on the CPU -/

theorem State.memWrite_withCpu (s : State) (c : Cpu) (a : Word) (v : Byte) :
    State.memWrite { s with cpu := c } a v = { s.memWrite a v with cpu := c } := by
  unfold State.memWrite
  split
  · split
    · unfold State.selectBank State.warnClamp
      simp only
      split
      · split <;> rfl
      · rfl
    · rfl
  · rfl
  · rfl
  · rfl
  · unfold State.writeIo
    split <;> try rfl
    unfold State.writeSound State.observe
    simp only
    split <;> rfl
  · rfl

theorem State.memWrite_setSp (s : State) (w a : Word) (v : Byte) :
    (s.setSp w).memWrite a v = (s.memWrite a v).setSp w := by
  have h := State.memWrite_withCpu s { s.cpu with sp := w } a v
  unfold State.setSp
  rw [h, State.memWrite_cpu]

theorem State.afterRead_withCpu (s : State) (c : Cpu) (a : Word) :
    State.afterRead { s with cpu := c } a = { s.afterRead a with cpu := c } := by
  unfold State.afterRead
  split
  · split <;> rfl
  · rfl

theorem State.afterRead_setSp (s : State) (w a : Word) :
    (s.setSp w).afterRead a = (s.afterRead a).setSp w := by
  have h := State.afterRead_withCpu s { s.cpu with sp := w } a
  unfold State.setSp
  rw [h, State.afterRead_cpu]

theorem State.peek_setSp (s : State) (w a : Word) : (s.setSp w).peek a = s.peek a :=
  peek_congr rfl rfl rfl a

/-! ### Comparing states -/

theorem OutsideSame.refl (s : State) : OutsideSame s s := ⟨rfl, rfl, rfl, rfl, rfl, rfl⟩

theorem OutsideSame.memorySame {s t : State} (h : OutsideSame s t) : MemorySame s t := fun _ hc =>
  peek_congr_off_counters h.1 (by rw [h.2.2.1]) hc

theorem MemorySame.trans {s t u : State} (h : MemorySame s t) (h' : MemorySame t u) : MemorySame s u :=
  fun b hc => (h' b hc).trans (h b hc)

/-- A state that differs in the CPU alone reads as before everywhere. -/
theorem regsOnly_of {rs : List Reg8} {n : Nat} {s t : State} (hr : RegsSameBut rs s t) (hc : ControlSame s t)
    (ho : OutsideSame s t) (hn : t.cycles = n) : RegsOnly rs n s t :=
  ⟨hr, hc, ho, ho.memorySame, hn⟩

/-- The frame of one read. -/
theorem readsOnly_of {a : Word} {rs : List Reg8} {n : Nat} {s t : State} (hr : RegsSameBut rs s t)
    (hc : ControlSame s t) (ho : OutsideSame (s.afterRead a) t) (hn : t.cycles = n) : ReadsOnly a rs n s t :=
  ⟨hr, hc, ho, (memorySame_afterRead s a).trans ho.memorySame, by simpa using ho.1, by simpa using ho.2.1,
    by simpa using ho.2.2.1, hn⟩

/-- The frame of one store. -/
theorem storesByte_of {a : Word} {v : Byte} {rs : List Reg8} {n : Nat} {s t : State} (hr : RegsSameBut rs s t)
    (hc : ControlSame s t) (ho : OutsideSame (s.memWrite a v) t) (hn : t.cycles = n) :
    StoresByte a v rs n s t := by
  obtain ⟨o1, o2, o3, o4, o5, o6⟩ := ho
  refine ⟨hr, hc, ⟨o1, o2, o3, o4, o5, o6⟩, ?_, fun h => ?_, by simpa using o6, hn⟩
  · exact (storesOnlyAt_memWrite s a v).congr ⟨rfl, rfl, rfl, rfl⟩ ⟨o1, o2, o3, o5⟩
  · rw [peek_congr o1 (by rw [o3]) o6, peek_memWrite_same s v h]

/-- The frame of one read and one write of the same address. -/
theorem rewritesByte_of {a : Word} {v : Byte} {n : Nat} {s t : State} (hr : RegsSameBut [] s t)
    (hc : ControlSame s t) (ho : OutsideSame ((s.afterRead a).memWrite a v) t) (hn : t.cycles = n) :
    RewritesByte a v n s t := by
  obtain ⟨o1, o2, o3, o4, o5, o6⟩ := ho
  refine ⟨hr, hc, ⟨o1, o2, o3, o4, o5, o6⟩, ?_, fun h => ?_, hn⟩
  · exact (storesOnlyAt_memWrite (s.afterRead a) a v).congr (by simp) ⟨o1, o2, o3, o5⟩
  · rw [peek_congr o1 (by rw [o3]) o6, peek_memWrite_same _ v h]

/-! ### Register pairs -/

@[simp] theorem State.setPair_pair (s : State) (p : Pair) (v : Word) : (s.setPair p v).pair p = v := by
  cases p
  · exact wordOf_bytes v
  · exact wordOf_bytes v
  · exact wordOf_bytes v
  · rfl

theorem State.setPair_reg8 (s : State) (p : Pair) (v : Word) {r : Reg8} (h : r ∉ pairRegs p) :
    (s.setPair p v).reg8 r = s.reg8 r := by
  cases p <;> cases r <;> first | rfl | exact absurd h (by decide)

/-- What a write of a pair leaves alone. -/
theorem setPair_frame (s : State) (p : Pair) (v : Word) :
    (p ≠ .sp → (s.setPair p v).cpu.sp = s.cpu.sp) ∧ (s.setPair p v).cpu.f = s.cpu.f ∧
    (s.setPair p v).cpu.pc = s.cpu.pc ∧ ControlSame s (s.setPair p v) ∧ OutsideSame s (s.setPair p v) := by
  cases p <;> refine ⟨?_, rfl, rfl, ⟨rfl, rfl, rfl⟩, ⟨rfl, rfl, rfl, rfl, rfl, rfl⟩⟩ <;> simp [State.setPair]

/-! ### The stack -/

theorem sub_one_sub_one (w : Word) : w - 1#16 - 1#16 = w - 2#16 := by bv_omega

theorem add_one_add_one (w : Word) : w + 1#16 + 1#16 = w + 2#16 := by bv_omega

/-- `Push16` as two bus writes and SP. -/
theorem push16_eq (s : State) (v : Word) : s.push16 v =
    ((s.memWrite (s.cpu.sp - 1#16) (hiByte v)).memWrite (s.cpu.sp - 2#16) (loByte v)).setSp
      (s.cpu.sp - 2#16) := by
  unfold State.push16 State.push8
  simp only [State.memWrite_setSp, State.setSp_sp, sub_one_sub_one]
  rfl

/-- `Pop16` as two bus reads and SP. -/
theorem pop16_eq (s : State) : s.pop16 =
    (poppedWord s, ((s.afterRead s.cpu.sp).afterRead (s.cpu.sp + 1#16)).setSp (s.cpu.sp + 2#16)) := by
  unfold State.pop16 State.pop8 State.memRead poppedWord
  simp only [State.afterRead_setSp, State.setSp_sp, State.peek_setSp, add_one_add_one]
  rfl

/-- The frame of a push. -/
theorem pushesWord_push16 (s : State) (v : Word) : PushesWord v s (s.push16 v) := by
  rw [push16_eq]
  have hne : s.cpu.sp - 1#16 ≠ s.cpu.sp - 2#16 := by bv_omega
  refine ⟨fun r _ => ?_, by simp, by simp, by simp [OutsideSame], ?_, fun h => ?_, fun h => ?_, by simp⟩
  · cases r <;> simp [State.reg8, State.setSp]
  · have h := (storesOnlyAt_memWrite s (s.cpu.sp - 1#16) (hiByte v)).trans
      (storesOnlyAt_memWrite _ (s.cpu.sp - 2#16) (loByte v))
    exact h.congr ⟨rfl, rfl, rfl, rfl⟩ (by simp)
  · rw [State.peek_setSp, peek_memWrite_other _ _ hne, peek_memWrite_same s _ h]
    intro hb
    rcases h with h | h | h | h
    · unfold IsRam IsBankWindow at *; omega
    · rw [isTimerReg_iff] at h; unfold IsBankWindow; omega
    · unfold IsSoundReg IsBankWindow at *; omega
    · rw [h]; unfold IsBankWindow; decide
  · rw [State.peek_setSp, peek_memWrite_same _ _ h]

/-- Writing PC and the control flags keeps the frame of a push. -/
theorem PushesWord.congr {v : Word} {s t t' : State} (h : PushesWord v s t)
    (hr : ∀ r, t'.reg8 r = t.reg8 r) (hf : t'.cpu.f = t.cpu.f) (hsp : t'.cpu.sp = t.cpu.sp)
    (ho : OutsideSame t t') : PushesWord v s t' := by
  obtain ⟨regs, f, sp, out, frame, b1, b2, d⟩ := h
  obtain ⟨o1, o2, o3, o4, o5, o6⟩ := ho
  obtain ⟨u1, u2, u3, u4, u5, u6⟩ := out
  refine ⟨fun r hr' => (hr r).trans (regs r hr'), hf.trans f, hsp.trans sp,
    ⟨o1.trans u1, o2.trans u2, o3.trans u3, o4.trans u4, o5.trans u5, o6.trans u6⟩,
    frame.congr ⟨rfl, rfl, rfl, rfl⟩ ⟨o1, o2, o3, o5⟩, fun h => ?_, fun h => ?_, o6.trans d⟩
  · rw [peek_congr o1 (by rw [o3]) o6, b1 h]
  · rw [peek_congr o1 (by rw [o3]) o6, b2 h]

/-- The frame of a pop. -/
theorem popsWord_of_pop16 {s t : State} {rs : List Reg8} (hr : RegsSameBut rs s t)
    (hsp : t.cpu.sp = s.cpu.sp + 2#16)
    (ho : OutsideSame ((s.afterRead s.cpu.sp).afterRead (s.cpu.sp + 1#16)) t) : PopsWord rs s t := by
  obtain ⟨o1, o2, o3, o4, o5, o6⟩ := ho
  refine ⟨hr, hsp, ⟨o1, o2, o3, o4, o5, o6⟩, ?_, by simpa using o1, by simpa using o2, by simpa using o3⟩
  exact ((memorySame_afterRead s _).trans (memorySame_afterRead _ _)).trans
    (OutsideSame.memorySame ⟨o1, o2, o3, o4, o5, o6⟩)

/-- Delivery as a push, PC and the two flags (60_exceptions.md R363). -/
theorem deliverInterrupt_eq (s : State) (vector : Word) : s.deliverInterrupt vector =
    { s.push16 s.cpu.pc with
      cpu := { s.cpu with halted := false, ime := false, sp := s.cpu.sp - 2#16, pc := vector } } := by
  unfold State.deliverInterrupt
  simp only [push16_eq]
  have h : (s.setHalted false).setIme false = { s with cpu := { s.cpu with halted := false, ime := false } } := rfl
  rw [h]
  simp only [State.memWrite_withCpu]
  unfold State.setPc State.setSp
  simp

end Sys2Proof.Machine
end

