-- ==== Sys2Proof/Laws/Micro.lean ====
section
/-! SUPPORT. What an instruction can do, said once: its next state is reached by writing the CPU (F through
its door), reading and writing bytes through the bus, charging cycles and sending diagnostics. A property
each of these keeps is kept by every instruction. -/

namespace Sys2Proof.Machine

open Sys2Proof Sys2Proof.Laws

/-- What an instruction is made of. -/
inductive Micro : State → State → Prop where
  | refl {s : State} : Micro s s
  /-- The register file, `ime` and `halted`; F has bits 3-0 zero if it had them. -/
  | cpu {s t : State} (c : Cpu) (hf : c.f = s.cpu.f ∨ c.f &&& 0x0F#8 = 0#8)
      (hs : c.stopReason = s.cpu.stopReason) (h : t = { s with cpu := c }) : Micro s t
  /-- What a bus read leaves behind. -/
  | read {s t : State} (a : Word) (h : t = s.afterRead a) : Micro s t
  /-- A bus write. -/
  | write {s t : State} (a : Word) (v : Byte) (h : t = s.memWrite a v) : Micro s t
  | charge {s t : State} (n : Nat) (h : t = s.charge n) : Micro s t
  | note {s t : State} (d : Diagnostic) (h : t = s.note (.diag d)) : Micro s t
  | trans {s t u : State} (h : Micro s t) (h' : Micro t u) : Micro s u

/-- A property that each part keeps is kept. -/
theorem Micro.keeps {P : State → Prop} {s t : State} (h : Micro s t)
    (cpu : ∀ (s : State) (c : Cpu), (c.f = s.cpu.f ∨ c.f &&& 0x0F#8 = 0#8) →
      c.stopReason = s.cpu.stopReason → P s → P { s with cpu := c })
    (read : ∀ (s : State) (a : Word), P s → P (s.afterRead a))
    (write : ∀ (s : State) (a : Word) (v : Byte), P s → P (s.memWrite a v))
    (charge : ∀ (s : State) (n : Nat), P s → P (s.charge n))
    (note : ∀ (s : State) (d : Diagnostic), P s → P (s.note (.diag d))) : P s → P t := by
  induction h with
  | refl => exact id
  | cpu c hf hs h => exact h ▸ cpu _ c hf hs
  | read a h => exact h ▸ read _ a
  | write a v h => exact h ▸ write _ a v
  | charge n h => exact h ▸ charge _ n
  | note d h => exact h ▸ note _ d
  | trans _ _ ih ih' => exact ih' ∘ ih

/-- Sending to the host leaves the rest of its side as it was. -/
theorem host_sent {x s : State} {e : List HostEvent} {w : Bool}
    (h : x.host = { s.host with events := e, bankClampWarned := w }) (e' : List HostEvent) (w' : Bool) :
    { x.host with events := e', bankClampWarned := w' } = { s.host with events := e', bankClampWarned := w' } := by
  rw [h]

/-- The host's side but for what was sent to it is left alone by what an instruction is made of. -/
theorem Micro.host {s t : State} (m : Micro s t) :
    ∃ e w, t.host = { s.host with events := e, bankClampWarned := w } := by
  refine m.keeps (P := fun x => ∃ e w, x.host = { s.host with events := e, bankClampWarned := w })
    (fun _ _ _ _ h => h) (fun x a h => ?_) (fun x a v h => ?_) (fun _ _ h => h)
    (fun x d ⟨_, _, h⟩ => ⟨.diag d :: x.host.events, x.host.bankClampWarned, host_sent h _ _⟩) ⟨_, _, rfl⟩
  all_goals obtain ⟨e, w, h⟩ := h
  · rcases afterRead_eq x a with h' | ⟨-, h'⟩ | ⟨-, h'⟩
    all_goals rw [h']
    · exact ⟨e, w, h⟩
    · exact ⟨e, w, h⟩
    · exact ⟨.diag (.unimplementedRead a) :: x.host.events, x.host.bankClampWarned, host_sent h _ _⟩
  · rcases memWrite_cases x a v with ⟨h', -⟩ | ⟨-, h'⟩ | ⟨-, h'⟩ | ⟨-, h'⟩ | ⟨-, h'⟩ | ⟨-, h'⟩ | ⟨-, h'⟩ | ⟨-, h'⟩
    case inr.inr.inl =>
      obtain ⟨ev, w', h2⟩ := selectBank_eq x v
      rw [h', h2]
      exact ⟨ev, w', host_sent h _ _⟩
    case inr.inr.inr.inr.inr.inr.inl =>
      obtain ⟨ev, h2⟩ := writeSound_eq x a v
      rw [h', h2]
      exact ⟨ev, x.host.bankClampWarned, host_sent h _ _⟩
    case inr.inr.inr.inr.inr.inr.inr =>
      rw [h']
      exact ⟨.diag (.unimplementedWrite a v) :: x.host.events, x.host.bankClampWarned, host_sent h _ _⟩
    all_goals rw [h']
    all_goals exact ⟨e, w, h⟩

/-- The inputs of the instance are left alone by what an instruction is made of. -/
theorem Micro.params {s t : State} (m : Micro s t) : t.host.daaMode = s.host.daaMode ∧
    t.host.impulseTable = s.host.impulseTable ∧ t.host.resampler = s.host.resampler := by
  obtain ⟨e, w, h⟩ := m.host
  rw [h]
  exact ⟨rfl, rfl, rfl⟩

/-! ### The operations -/

theorem Micro.setReg8 (s : State) (r : Reg8) (v : Byte) : Micro s (s.setReg8 r v) :=
  .cpu (s.setReg8 r v).cpu (.inl (by cases r <;> rfl)) (by cases r <;> rfl) rfl

theorem Micro.setHl (s : State) (v : Word) : Micro s (s.setHl v) :=
  .cpu (s.setHl v).cpu (.inl rfl) rfl rfl
theorem Micro.setSp (s : State) (v : Word) : Micro s (s.setSp v) :=
  .cpu (s.setSp v).cpu (.inl rfl) rfl rfl
theorem Micro.setPc (s : State) (v : Word) : Micro s (s.setPc v) :=
  .cpu (s.setPc v).cpu (.inl rfl) rfl rfl
theorem Micro.setIme (s : State) (v : Bool) : Micro s (s.setIme v) :=
  .cpu (s.setIme v).cpu (.inl rfl) rfl rfl
theorem Micro.setHalted (s : State) (v : Bool) : Micro s (s.setHalted v) :=
  .cpu (s.setHalted v).cpu (.inl rfl) rfl rfl
theorem Micro.setF (s : State) (v : Byte) : Micro s (s.setF v) :=
  .cpu (s.setF v).cpu (.inr (and_f0_low v)) rfl rfl
theorem Micro.setFlags (s : State) (z n h c : Bool) : Micro s (s.setFlags z n h c) := Micro.setF s _
theorem Micro.afterRead (s : State) (a : Word) : Micro s (s.afterRead a) := .read a rfl
theorem Micro.memWrite (s : State) (a : Word) (v : Byte) : Micro s (s.memWrite a v) := .write a v rfl

theorem Micro.setPair (s : State) (p : Pair) (v : Word) : Micro s (s.setPair p v) := by
  cases p
  · exact .cpu (s.setPair .bc v).cpu (.inl rfl) rfl rfl
  · exact .cpu (s.setPair .de v).cpu (.inl rfl) rfl rfl
  · exact Micro.setHl s v
  · exact Micro.setSp s v

theorem Micro.setStackPair (s : State) (p : StackPair) (v : Word) : Micro s (s.setStackPair p v) := by
  cases p
  · exact Micro.setPair s .bc v
  · exact Micro.setPair s .de v
  · exact Micro.setHl s v
  · exact (Micro.setReg8 s .a _).trans (Micro.setF _ _)

theorem Micro.push16 (s : State) (v : Word) : Micro s (s.push16 v) :=
  (((Micro.setSp s _).trans (Micro.memWrite _ _ _)).trans (Micro.setSp _ _)).trans (Micro.memWrite _ _ _)

theorem Micro.pop16 (s : State) : Micro s s.pop16.2 :=
  (((Micro.afterRead s _).trans (Micro.setSp _ _)).trans (Micro.afterRead _ _)).trans (Micro.setSp _ _)

theorem Micro.popPc (s : State) : Micro s s.popPc := (Micro.pop16 s).trans (Micro.setPc _ _)

theorem Micro.fetch8 (s : State) : Micro s s.fetch8.2 := (Micro.afterRead s _).trans (Micro.setPc _ _)

theorem Micro.readOpnd (s : State) (o : Opnd) : Micro s (s.readOpnd o).2 := by
  cases o
  · exact .refl
  · exact Micro.afterRead s _

theorem Micro.writeOpnd (s : State) (o : Opnd) (v : Byte) : Micro s (s.writeOpnd o v) := by
  cases o
  · exact Micro.setReg8 s _ v
  · exact Micro.memWrite s _ v

theorem Micro.alu (s : State) (op : AluOp) (x : Byte) : Micro s (s.alu op x) := by
  cases op
  case cp => exact Micro.setFlags s _ _ _ _
  all_goals exact (Micro.setReg8 s .a _).trans (Micro.setFlags _ _ _ _ _)

theorem Micro.deliverInterrupt (s : State) (vector : Word) : Micro s (s.deliverInterrupt vector) :=
  (((Micro.setHalted s false).trans (Micro.setIme _ _)).trans (Micro.push16 _ _)).trans (Micro.setPc _ _)

theorem Micro.fetchInstr (s : State) : Micro s s.fetchInstr.2 := by
  unfold State.fetchInstr
  simp only
  split
  · exact (Micro.fetch8 s).trans (Micro.fetch8 _)
  · exact ((Micro.fetch8 s).trans (Micro.fetch8 _)).trans (Micro.fetch8 _)
  · exact Micro.fetch8 s

/-! ### The meanings -/

/-- An outcome that ends in a next state reached by `Micro` parts, with `n` cycles charged. -/
def Goes (s : State) (n : Nat) (o : Out) : Prop := ∃ t, o = .next (t.charge n) ∧ Micro s t

theorem Micro.goes {s t : State} (h : Micro s t) (n : Nat) : Goes s n (t.done n) := ⟨t, rfl, h⟩

/-- A count of cycles as the opcode tables give them: 4 to 24, a multiple of 4 (30_encoding.md R123, R127). -/
abbrev CycleCount (n : Nat) : Prop := 4 ≤ n ∧ n ≤ 24 ∧ n % 4 = 0

/-- An outcome that goes on with a count of the opcode tables. -/
def GoesOn (s : State) (o : Out) : Prop := ∃ n, CycleCount n ∧ Goes s n o

theorem Micro.goesOn {s t : State} (h : Micro s t) (n : Nat) (hn : CycleCount n := by decide) :
    GoesOn s (t.done n) := ⟨n, hn, h.goes n⟩

theorem goesOn_ite {s : State} {b : Bool} {o o' : Out} (h : GoesOn s o) (h' : GoesOn s o') :
    GoesOn s (if b then o else o') := by
  cases b
  · exact h'
  · exact h

theorem opndCycles_count {r m : Nat} (o : Opnd) (hr : CycleCount r) (hm : CycleCount m) :
    CycleCount (opndCycles r m o) := by
  cases o
  · exact hr
  · exact hm

/-- `STOP` or an illegal opcode: the two fatal outcomes an instruction can take. -/
def IsFatal (i : Instr) : Prop := i = .stop ∨ ∃ r ∈ illegalRows, i = r.2

theorem exec_stop_eq (s : State) : exec .stop s = .next (s.raiseFatal .stopInstruction) := rfl

/-- DAA under the mode that gives it no meaning (41_alu8.md R224). -/
theorem exec_daa_refuse {s : State} (h : s.host.daaMode = .refuse) : exec .daa s = .refused .daaRefused := by
  show opDaa s.host.daaMode 4 s = _
  rw [h]
  rfl

theorem exec_daa_goesOn {s : State} (h : s.host.daaMode ≠ .refuse) : GoesOn s (exec .daa s) := by
  show GoesOn s (opDaa s.host.daaMode 4 s)
  cases e : s.host.daaMode with
  | adjustOnly => exact (Micro.setReg8 s .a _).goesOn _
  | hardware => exact ((Micro.setReg8 s .a _).trans (Micro.setFlags _ _ _ _ _)).goesOn _
  | refuse => exact absurd e h

/-- Every other instruction but DAA goes on. -/
theorem exec_goesOn (i : Instr) (s : State) (h : ¬ (i = .daa ∨ IsFatal i)) : GoesOn s (exec i s) := by
  revert h
  refine instr_by_family (P := fun i => ¬ (i = .daa ∨ IsFatal i) → GoesOn s (exec i s)) ?ld ?ldImm ?ldFromHl ?ldToHl
    ?ldPair ?pop ?push ?alu ?aluImm ?inc ?dec ?addHl ?incPair ?decPair ?rot ?bit ?res ?set ?jpIf ?jrIf
    ?callIf ?retIf ?rst ?illegal ?nop ?ldMbcA ?rlca ?ldMa16Sp ?ldAMbc ?rrca ?stop ?ldMdeA ?rla ?jrE8
    ?ldAMde ?rra ?ldMhliA ?daa ?ldAMhli ?cpl ?ldMhldA ?ldMhlD8 ?scf ?ldAMhld ?ccf ?halt ?jpA16 ?ret
    ?cbPrefix ?callA16 ?reti ?ldhMa8A ?ldMcA ?addSpE8 ?jpHl ?ldMa16A ?ldhAMa8 ?ldAMc ?di ?ldHlSpE8
    ?ldSpHl ?ldAMa16 ?ei i
  case ld => intro dst r _; rw [exec_ldOf]; exact (Micro.setReg8 s _ _).goesOn _
  case ldImm => intro dst n _; rw [exec_ldImmOf]; exact (Micro.setReg8 s _ _).goesOn _
  case ldFromHl =>
    intro dst _; rw [exec_ldFromHlOf]
    exact ((Micro.afterRead s _).trans (Micro.setReg8 _ _ _)).goesOn _
  case ldToHl => intro r _; rw [exec_ldToHlOf]; exact (Micro.memWrite s _ _).goesOn _
  case ldPair => intro p nn _; rw [exec_ldPairOf]; exact (Micro.setPair s _ _).goesOn _
  case pop => intro p _; rw [exec_popOf]; exact ((Micro.pop16 s).trans (Micro.setStackPair _ _ _)).goesOn _
  case push => intro p _; rw [exec_pushOf]; exact (Micro.push16 s _).goesOn _
  case alu =>
    intro op o _; rw [exec_aluOf]
    exact ((Micro.readOpnd s o).trans (Micro.alu _ _ _)).goesOn _ (opndCycles_count o (by decide) (by decide))
  case aluImm => intro op n _; rw [exec_aluImmOf]; exact (Micro.alu s _ _).goesOn _
  case inc =>
    intro o _; rw [exec_incOf]
    exact (((Micro.readOpnd s o).trans (Micro.writeOpnd _ _ _)).trans (Micro.setFlags _ _ _ _ _)).goesOn _
      (opndCycles_count o (by decide) (by decide))
  case dec =>
    intro o _; rw [exec_decOf]
    exact (((Micro.readOpnd s o).trans (Micro.writeOpnd _ _ _)).trans (Micro.setFlags _ _ _ _ _)).goesOn _
      (opndCycles_count o (by decide) (by decide))
  case addHl =>
    intro p _; rw [exec_addHlOf]
    exact ((Micro.setHl s _).trans (Micro.setFlags _ _ _ _ _)).goesOn _
  case incPair => intro p _; rw [exec_incPairOf]; exact (Micro.setPair s _ _).goesOn _
  case decPair => intro p _; rw [exec_decPairOf]; exact (Micro.setPair s _ _).goesOn _
  case rot =>
    intro op o _; rw [exec_rotOf]
    exact (((Micro.readOpnd s o).trans (Micro.writeOpnd _ _ _)).trans (Micro.setFlags _ _ _ _ _)).goesOn _
      (opndCycles_count o (by decide) (by decide))
  case bit =>
    intro b o _; rw [exec_bitOf]
    exact ((Micro.readOpnd s o).trans (Micro.setFlags _ _ _ _ _)).goesOn _
      (opndCycles_count o (by decide) (by decide))
  case res =>
    intro b o _; rw [exec_resOf]
    exact ((Micro.readOpnd s o).trans (Micro.writeOpnd _ _ _)).goesOn _
      (opndCycles_count o (by decide) (by decide))
  case set =>
    intro b o _; rw [exec_setOf]
    exact ((Micro.readOpnd s o).trans (Micro.writeOpnd _ _ _)).goesOn _
      (opndCycles_count o (by decide) (by decide))
  case jpIf => intro cc nn _; rw [exec_jpIfOf]; exact goesOn_ite ((Micro.setPc s _).goesOn _) (Micro.refl.goesOn _)
  case jrIf => intro cc e _; rw [exec_jrIfOf]; exact goesOn_ite ((Micro.setPc s _).goesOn _) (Micro.refl.goesOn _)
  case callIf =>
    intro cc nn _; rw [exec_callIfOf]
    exact goesOn_ite (((Micro.push16 s _).trans (Micro.setPc _ _)).goesOn _) (Micro.refl.goesOn _)
  case retIf => intro cc _; rw [exec_retIfOf]; exact goesOn_ite ((Micro.popPc s).goesOn _) (Micro.refl.goesOn _)
  case rst => intro y _; rw [exec_rstOf]; exact ((Micro.push16 s _).trans (Micro.setPc _ _)).goesOn _
  case illegal => exact fun r hr h => absurd (.inr (.inr ⟨r, hr, rfl⟩)) h
  case stop => exact fun h => absurd (.inr (.inl rfl)) h
  case nop => exact fun _ => Micro.refl.goesOn _
  case ldMbcA => exact fun _ => (Micro.memWrite s _ _).goesOn _
  case ldMdeA => exact fun _ => (Micro.memWrite s _ _).goesOn _
  case ldMcA => exact fun _ => (Micro.memWrite s _ _).goesOn _
  case ldMhlD8 => exact fun _ _ => (Micro.memWrite s _ _).goesOn _
  case ldhMa8A => exact fun _ _ => (Micro.memWrite s _ _).goesOn _
  case ldMa16A => exact fun _ _ => (Micro.memWrite s _ _).goesOn _
  case ldMa16Sp => exact fun _ _ => ((Micro.memWrite s _ _).trans (Micro.memWrite _ _ _)).goesOn _
  case ldMhliA => exact fun _ => ((Micro.memWrite s _ _).trans (Micro.setHl _ _)).goesOn _
  case ldMhldA => exact fun _ => ((Micro.memWrite s _ _).trans (Micro.setHl _ _)).goesOn _
  case ldAMbc => exact fun _ => ((Micro.afterRead s _).trans (Micro.setReg8 _ _ _)).goesOn _
  case ldAMde => exact fun _ => ((Micro.afterRead s _).trans (Micro.setReg8 _ _ _)).goesOn _
  case ldAMc => exact fun _ => ((Micro.afterRead s _).trans (Micro.setReg8 _ _ _)).goesOn _
  case ldhAMa8 => exact fun _ _ => ((Micro.afterRead s _).trans (Micro.setReg8 _ _ _)).goesOn _
  case ldAMa16 => exact fun _ _ => ((Micro.afterRead s _).trans (Micro.setReg8 _ _ _)).goesOn _
  case ldAMhli =>
    exact fun _ => (((Micro.afterRead s _).trans (Micro.setReg8 _ _ _)).trans (Micro.setHl _ _)).goesOn _
  case ldAMhld =>
    exact fun _ => (((Micro.afterRead s _).trans (Micro.setReg8 _ _ _)).trans (Micro.setHl _ _)).goesOn _
  case rlca => exact fun _ => ((Micro.setReg8 s .a _).trans (Micro.setFlags _ _ _ _ _)).goesOn _
  case rrca => exact fun _ => ((Micro.setReg8 s .a _).trans (Micro.setFlags _ _ _ _ _)).goesOn _
  case rla => exact fun _ => ((Micro.setReg8 s .a _).trans (Micro.setFlags _ _ _ _ _)).goesOn _
  case rra => exact fun _ => ((Micro.setReg8 s .a _).trans (Micro.setFlags _ _ _ _ _)).goesOn _
  case cpl => exact fun _ => ((Micro.setReg8 s .a _).trans (Micro.setFlags _ _ _ _ _)).goesOn _
  case daa => exact fun h => absurd (.inl rfl) h
  case scf => exact fun _ => (Micro.setFlags s _ _ _ _).goesOn _
  case ccf => exact fun _ => (Micro.setFlags s _ _ _ _).goesOn _
  case halt => exact fun _ => (Micro.setHalted s _).goesOn _
  case di => exact fun _ => (Micro.setIme s _).goesOn _
  case ei => exact fun _ => (Micro.setIme s _).goesOn _
  case jrE8 => exact fun _ _ => (Micro.setPc s _).goesOn _
  case jpA16 => exact fun _ _ => (Micro.setPc s _).goesOn _
  case jpHl => exact fun _ => (Micro.setPc s _).goesOn _
  case ret => exact fun _ => (Micro.popPc s).goesOn _
  case reti => exact fun _ => ((Micro.popPc s).trans (Micro.setIme _ _)).goesOn _
  case callA16 => exact fun _ _ => ((Micro.push16 s _).trans (Micro.setPc _ _)).goesOn _
  case addSpE8 => exact fun _ _ => ((Micro.setSp s _).trans (Micro.setFlags _ _ _ _ _)).goesOn _
  case ldHlSpE8 => exact fun _ _ => ((Micro.setHl s _).trans (Micro.setFlags _ _ _ _ _)).goesOn _
  case ldSpHl => exact fun _ => (Micro.setSp s _).goesOn _
  case cbPrefix =>
    intro op2 _
    have hc : ∀ o, CycleCount (cbCycles o) := by intro o; cases o <;> simp [cbCycles, CycleCount]
    have hb : ∀ o, CycleCount (cbBitCycles o) := by intro o; cases o <;> simp [cbBitCycles, CycleCount]
    show GoesOn s (opCb op2 s)
    unfold opCb
    simp only
    split
    · exact (((Micro.readOpnd s _).trans (Micro.writeOpnd _ _ _)).trans (Micro.setFlags _ _ _ _ _)).goesOn _ (hc _)
    · exact ((Micro.readOpnd s _).trans (Micro.setFlags _ _ _ _ _)).goesOn _ (hb _)
    · exact ((Micro.readOpnd s _).trans (Micro.writeOpnd _ _ _)).goesOn _ (hc _)
    · exact ((Micro.readOpnd s _).trans (Micro.writeOpnd _ _ _)).goesOn _ (hc _)

/-- All that an instruction can do. -/
theorem exec_cases (i : Instr) (s : State) :
    (¬ IsFatal i ∧ GoesOn s (exec i s)) ∨
    (i = .stop ∧ exec i s = .next (s.raiseFatal .stopInstruction)) ∨
    (∃ r ∈ illegalRows, i = r.2 ∧ exec i s = .next (s.raiseIllegal r.1 (s.cpu.pc - 1#16))) ∨
    (i = .daa ∧ s.host.daaMode = .refuse ∧ exec i s = .refused .daaRefused) := by
  by_cases h : IsFatal i
  · rcases h with rfl | ⟨r, hr, rfl⟩
    · exact .inr (.inl ⟨rfl, rfl⟩)
    · exact .inr (.inr (.inl ⟨r, hr, rfl, exec_illegal r hr s⟩))
  · by_cases hd : i = .daa
    · subst hd
      by_cases hm : s.host.daaMode = .refuse
      · exact .inr (.inr (.inr ⟨rfl, hm, exec_daa_refuse hm⟩))
      · exact .inl ⟨h, exec_daa_goesOn hm⟩
    · exact .inl ⟨h, exec_goesOn i s (not_or.mpr ⟨hd, h⟩)⟩

end Sys2Proof.Machine
end

