-- ==== Sys2Proof/Laws/Step.lean ====
section
/-! SUPPORT. What a step can do, said once, and the parts of an iteration after the CPU step. -/

namespace Sys2Proof.Machine

open Sys2Proof

/-! ### Fetch -/

theorem fetchInstr_eq (s : State) :
    s.fetchInstr = (fetchedBytes (instrLength (s.peek s.cpu.pc)) s, afterFetch (instrLength (s.peek s.cpu.pc)) s) := by
  unfold State.fetchInstr State.fetch8 State.memRead
  rcases instrLength_range (s.peek s.cpu.pc) with e | e | e <;> simp only [e] <;> simp [fetchedBytes, afterFetch]

/-- The fetched bytes decode to a whole instruction with none left over. -/
theorem fetchInstr_decodes (s : State) : ∃ i, i.wellFormed = true ∧ decode s.fetchInstr.1 = .ok (i, []) := by
  rw [fetchInstr_eq]
  rcases instrLength_range (s.peek s.cpu.pc) with e | e | e <;> simp only [e, fetchedBytes] <;>
    generalize s.peek s.cpu.pc = b0 at *
  · have hop : b0 ≠ 0xCB#8 := by rintro rfl; cases e
    exact ⟨_, (encode_decodePrimary 0#8 0#8 b0 hop).1, by simp only [decode, if_neg hop, e]⟩
  · generalize State.peek _ _ = b1
    by_cases hop : b0 = 0xCB#8
    · subst hop
      obtain ⟨j, h1, h2, h3⟩ := encode_decodeCb b1
      exact ⟨j, h2, by simp only [decode, if_true, h1]⟩
    · exact ⟨_, (encode_decodePrimary b1 0#8 b0 hop).1, by simp only [decode, if_neg hop, e]⟩
  · have hop : b0 ≠ 0xCB#8 := by rintro rfl; cases e
    simp only [decode, if_neg hop, e]
    exact ⟨_, (encode_decodePrimary _ _ b0 hop).1, rfl⟩

/-! ### The rest of an iteration -/

theorem Micro.stopReason {s t : State} (m : Micro s t) : t.cpu.stopReason = s.cpu.stopReason :=
  m.keeps (P := fun x => x.cpu.stopReason = s.cpu.stopReason) (fun _ _ _ h e => h.trans e)
    (fun _ _ e => by simpa using e) (fun _ _ _ e => by simpa using e) (fun _ _ e => e) (fun _ _ e => e) rfl

/-- `INTR_DISPATCH_CYCLES` is 0, so a delivery charges nothing. -/
@[simp] theorem State.chargeDispatch_eq (s : State) (n : Nat) : s.chargeDispatch n = s := by
  induction n with
  | zero => rfl
  | succ n ih => exact ih

theorem State.afterCpuStep_eq (s : State) (c : Nat) :
    s.afterCpuStep c = (((s.runFor c).vblankCheck c).1.timerCheck c).1 := State.chargeDispatch_eq _ _

/-- Firing does nothing or delivers. -/
theorem State.fire_eq (s : State) (bit : Nat) (vector : Word) :
    (s.fire bit vector).1 = if s.delivers bit then s.deliverInterrupt vector else s := by
  unfold State.fire
  split <;> rfl

theorem Micro.fire (s : State) (bit : Nat) (vector : Word) : Micro s (s.fire bit vector).1 := by
  rw [State.fire_eq]
  split
  · exact Micro.deliverInterrupt s vector
  · exact .refl

/-- The vblank check: the countdown moves, then `Micro` parts. -/
theorem vblankCheck_cases (s : State) (c : Nat) : ∃ v,
    Micro { s with timers := { s.timers with vblankCtr := v } } (s.vblankCheck c).1 ∧
    v = if s.timers.vblankCtr - (c : Int) ≤ 0 then s.timers.vblankCtr - c + 70224 else s.timers.vblankCtr - c := by
  unfold State.vblankCheck
  simp only
  split
  · exact ⟨_, Micro.fire _ _ _, rfl⟩
  · exact ⟨_, .refl, rfl⟩

/-- The timer check: the countdown moves, then `Micro` parts. -/
theorem timerCheck_cases (s : State) (c : Nat) : ∃ v,
    Micro { s with timers := { s.timers with timerCtr := v } } (s.timerCheck c).1 := by
  unfold State.timerCheck
  simp only
  split
  · split
    · exact ⟨_, Micro.fire _ _ _⟩
    · exact ⟨_, .refl⟩
  · exact ⟨s.timers.timerCtr, .refl⟩

/-- A property that every part of the rest of an iteration keeps is kept. -/
theorem afterCpuStep_keeps {P : State → Prop} {s : State} {c : Nat}
    (run : ∀ s, P s → P (s.runFor c)) (parts : ∀ s t, Micro s t → P s → P t)
    (vblank : ∀ (s : State) v, P s → P { s with timers := { s.timers with vblankCtr := v } })
    (timer : ∀ (s : State) v, P s → P { s with timers := { s.timers with timerCtr := v } }) (h : P s) :
    P (s.afterCpuStep c) := by
  rw [State.afterCpuStep_eq]
  obtain ⟨v, hv, -⟩ := vblankCheck_cases (s.runFor c) c
  obtain ⟨w, hw⟩ := timerCheck_cases ((s.runFor c).vblankCheck c).1 c
  exact parts _ _ hw (timer _ _ (parts _ _ hv (vblank _ _ (run _ h))))

theorem afterCpuStep_stopReason (s : State) (c : Nat) :
    (s.afterCpuStep c).cpu.stopReason = s.cpu.stopReason :=
  afterCpuStep_keeps (P := fun x => x.cpu.stopReason = s.cpu.stopReason) (fun _ e => e)
    (fun _ _ m e => m.stopReason.trans e) (fun _ _ e => e) (fun _ _ e => e) rfl

theorem Micro.sessionCycles {s t : State} (m : Micro s t) : t.sessionCycles = s.sessionCycles :=
  m.keeps (P := fun x => x.sessionCycles = s.sessionCycles) (fun _ _ _ _ e => e)
    (fun _ _ e => by simpa using e) (fun _ _ _ e => by simpa using e) (fun _ _ e => e) (fun _ _ e => e) rfl

/-- The rest of an iteration keeps the count of the step and adds it to the session. -/
theorem afterCpuStep_cycles (s : State) (c : Nat) : (s.afterCpuStep c).cycles = s.cycles := by
  have fx : ∀ (s : State) b v, (s.fire b v).1.cycles = s.cycles := by
    intro s b v
    rw [State.fire_eq]
    split
    · rw [deliverInterrupt_eq, push16_eq]; simp
    · rfl
  rw [State.afterCpuStep_eq]
  have h1 : ∀ s : State, (s.vblankCheck c).1.cycles = s.cycles := by
    intro s
    unfold State.vblankCheck
    simp only
    split
    · rw [fx]
    · rfl
  have h2 : ∀ s : State, (s.timerCheck c).1.cycles = s.cycles := by
    intro s
    unfold State.timerCheck
    simp only
    split
    · split
      · rw [fx]
      · rfl
    · rfl
  rw [h2, h1]
  rfl

theorem afterCpuStep_session (s : State) (c : Nat) : (s.afterCpuStep c).sessionCycles = s.sessionCycles + c := by
  have fx : ∀ (s : State) b v, (s.fire b v).1.sessionCycles = s.sessionCycles := by
    intro s b v
    rw [State.fire_eq]
    split
    · rw [deliverInterrupt_eq, push16_eq]; simp
    · rfl
  rw [State.afterCpuStep_eq]
  have h1 : ∀ s : State, (s.vblankCheck c).1.sessionCycles = s.sessionCycles := by
    intro s
    unfold State.vblankCheck
    simp only
    split
    · rw [fx]
    · rfl
  have h2 : ∀ s : State, (s.timerCheck c).1.sessionCycles = s.sessionCycles := by
    intro s
    unfold State.timerCheck
    simp only
    split
    · split
      · rw [fx]
      · rfl
    · rfl
  rw [h2, h1]
  rfl

/-! ### The step -/

/-- What the fetch and the diagnostic of a fatal step leave alone. -/
theorem fatalSame_fetchInstr (s : State) : FatalSame s s.fetchInstr.2 := by
  rw [fetchInstr_eq]
  obtain ⟨h1, h2, h3, h4, h5⟩ := afterFetch_same (instrLength (s.peek s.cpu.pc)) s
  refine ⟨fun r _ => ?_, by simp [h1], by simp [h1], by simp [h1], by simp [h1], h2, h3, h4, h5,
    afterFetch_host _ s, fun b hb => peek_congr_off_counters h2 (by rw [h4]) hb⟩
  cases r <;> simp [State.reg8, h1]

/-- All that a CPU step can do: `Micro` parts and `n` cycles, or a fatal outcome that changes nothing else. -/
theorem cpuStep_cases (s : State) :
    (∃ u n, Micro s u ∧ CycleCount n ∧ s.cpuStep = .next (u.charge n)) ∨
    (∃ u r, Micro s u ∧ FatalSame s u ∧ s.cpuStep = .next (u.raiseFatal r)) ∨
    (s.host.daaMode = .refuse ∧ s.cpuStep = .refused .daaRefused) := by
  unfold State.cpuStep
  split
  · split
    · exact .inl ⟨s, 4, .refl, by decide, rfl⟩
    · exact .inr (.inl ⟨s, .haltLockup, .refl,
        ⟨fun _ _ => rfl, rfl, rfl, rfl, rfl, rfl, rfl, rfl, rfl, rfl, fun _ _ => rfl⟩, rfl⟩)
  · obtain ⟨i, hw, hd⟩ := fetchInstr_decodes s
    unfold State.fetchExecute
    simp only [hd]
    rcases exec_cases i s.fetchInstr.2 with ⟨-, n, hn, u, hu, m⟩ | ⟨-, hu⟩ | ⟨r, -, -, hu⟩ | ⟨-, hm, hu⟩
    · exact .inl ⟨u, n, (Micro.fetchInstr s).trans m, hn, hu⟩
    · exact .inr (.inl ⟨_, _, Micro.fetchInstr s, fatalSame_fetchInstr s, hu⟩)
    · refine .inr (.inl ⟨_, _, (Micro.fetchInstr s).trans
        (.note (.illegalOpcode r.1 (s.fetchInstr.2.cpu.pc - 1#16)) rfl), ?_, hu⟩)
      obtain ⟨a1, a2, a3, a4, a5, a6, a7, a8, a9, ah, a10⟩ := fatalSame_fetchInstr s
      exact ⟨a1, a2, a3, a4, a5, a6, a7, a8, a9, by simp only [State.note]; rw [ah],
        fun b hb => (peek_congr rfl rfl rfl b).trans (a10 b hb)⟩
    · exact .inr (.inr ⟨(Micro.fetchInstr s).params.1.symm.trans hm, hu⟩)

/-- All that a step can do from a CPU that is not stopped. -/
theorem step_running {s : State} (hs : s.cpu.stopReason = none) :
    (∃ u n, Micro s u ∧ CycleCount n ∧ s.cpuStep = .next (u.charge n) ∧
      step s = .next ((u.charge n).afterCpuStep n)) ∨
    (∃ u r, Micro s u ∧ FatalSame s u ∧ step s = .next (u.raiseFatal r)) ∨
    (s.host.daaMode = .refuse ∧ step s = .refused .daaRefused) := by
  unfold step State.iterate
  rw [hs]
  rcases cpuStep_cases s with ⟨u, n, m, hn, e⟩ | ⟨u, r, m, f, e⟩ | ⟨hm, e⟩
  · refine .inl ⟨u, n, m, hn, e, ?_⟩
    simp [e, State.finishIteration, m.stopReason, hs]
  · refine .inr (.inl ⟨u, r, m, f, ?_⟩)
    simp [e, State.finishIteration, State.raiseFatal, State.charge]
  · exact .inr (.inr ⟨hm, by rw [e]⟩)

theorem step_stopped {s : State} {r : StopReason} (hs : s.cpu.stopReason = some r) :
    step s = .fault (.stopped r) := by
  unfold step
  rw [hs]

/-- All that a step that ends in a next state has done. -/
theorem step_cases {s t : State} (h : step s = .next t) : s.cpu.stopReason = none ∧
    ((∃ u n, Micro s u ∧ CycleCount n ∧ t = (u.charge n).afterCpuStep n) ∨
     (∃ u r, Micro s u ∧ FatalSame s u ∧ t = u.raiseFatal r)) := by
  cases hs : s.cpu.stopReason with
  | some r => rw [step_stopped hs] at h; cases h
  | none =>
    refine ⟨rfl, ?_⟩
    rcases step_running hs with ⟨u, n, m, hn, -, e⟩ | ⟨u, r, m, f, e⟩ | ⟨-, e⟩ <;> rw [e] at h <;> cases h
    · exact .inl ⟨u, n, m, hn, rfl⟩
    · exact .inr ⟨u, r, m, f, rfl⟩

/-- A run that starts with a step. -/
theorem Reaches.head {s t u : State} (e : Machine.step s = .next t) (h : Reaches t u) : Reaches s u := by
  induction h with
  | refl => exact .step .refl e
  | step _ e' ih => exact .step ih e'

end Sys2Proof.Machine
end

