-- ==== Sys2Proof/Laws/Core.lean ====
section
/-! SUPPORT. The core invariant under each part of an instruction. -/

namespace Sys2Proof.Machine

open Sys2Proof

theorem selectedBank_lt {n : Nat} (h : 0 < n) (v : Byte) : selectedBank n v < n := by
  unfold selectedBank
  simp only
  generalize (if v.toNat = 0 then 1 else v.toNat) = b
  split <;> omega

/-- A bus write keeps the core invariant. -/
theorem CoreInv.memWrite {s : State} (i : CoreInv s) (a : Word) (v : Byte) : CoreInv (s.memWrite a v) := by
  have hb := i.bankInRange
  rcases memWrite_cases s a v with
    ⟨h, -⟩ | ⟨ha, h⟩ | ⟨-, h⟩ | ⟨-, h⟩ | ⟨-, h⟩ | ⟨-, h⟩ | ⟨ha, h⟩ | ⟨-, h⟩
  · rw [h]; exact i
  · rw [h]
    refine { i with memCanonical := Memory.write_wf i.memCanonical _ _, memRange := fun c hc => ?_ }
    rcases Memory.mem_write hc with rfl | hc
    · exact ha
    · exact i.memRange c hc
  · obtain ⟨e, w, h'⟩ := selectBank_eq s v
    rw [h, h']
    exact { i with bankInRange := selectedBank_lt (by omega) v }
  · rw [h]; exact { i with }
  · rw [h, reprogramTimer_eq]
    exact { i with timerProgrammed := rfl }
  · rw [h, reprogramTimer_eq]
    exact { i with timerProgrammed := rfl }
  · obtain ⟨e, h'⟩ := writeSound_eq s a v
    rw [h, h']
    refine { i with regsCanonical := ?_, regsRange := ?_ }
    · simp only [Sound.write_regs]
      exact Memory.write_wf i.regsCanonical _ _
    · simp only [Sound.write_regs]
      intro c hc
      rcases Memory.mem_write hc with rfl | hc
      · have := (sound_reg ha).2.2
        unfold IsSoundReg at ha
        simp only [this]
        omega
      · exact i.regsRange c hc
  · rw [h]; exact { i with }

/-- What an instruction is made of keeps the core invariant. -/
theorem Micro.coreInv {s t : State} (m : Micro s t) : CoreInv s → CoreInv t := by
  refine m.keeps (fun s c hf _ i => ?_) (fun s a i => ?_) (fun s a v i => i.memWrite a v) (fun _ _ i => { i with })
    (fun _ _ i => { i with })
  · refine { i with flagsLow := ?_ }
    rcases hf with h | h
    · show c.f &&& 0x0F#8 = 0#8
      rw [h]
      exact i.flagsLow
    · exact h
  · rcases afterRead_eq s a with h | ⟨-, h⟩ | ⟨-, h⟩
    all_goals rw [h]
    all_goals exact { i with }

/-- The ROM image and the number of banks are left alone by what an instruction is made of. -/
theorem Micro.rom {s t : State} (m : Micro s t) :
    t.bus.rom = s.bus.rom ∧ t.bus.bankCount = s.bus.bankCount :=
  m.keeps (P := fun x => x.bus.rom = s.bus.rom ∧ x.bus.bankCount = s.bus.bankCount) (fun _ _ _ _ e => e)
    (fun _ _ e => by simpa using e) (fun _ _ _ e => by simpa using e) (fun _ _ e => e) (fun _ _ e => e) ⟨rfl, rfl⟩

/-- An advance of the sound unit leaves the byte store alone. -/
theorem runFor_regs (s : State) (c : Nat) : (s.runFor c).snd.regs = s.snd.regs :=
  advance_keeps (P := fun x => x.regs = s.snd.regs) (fun x e => (x.cycle_regs s.host).trans e) c s.snd _ rfl

/-- A property of the sound unit that register writes keep is kept by what an instruction is made of. -/
theorem Micro.snd {P : Sound → Prop} (hw : ∀ s a v, P s → P (Sound.write s a v)) {s t : State} (m : Micro s t) :
    P s.snd → P t.snd := by
  refine m.keeps (P := fun x => P x.snd) (fun _ _ _ _ i => i) (fun s a i => by simpa using i) (fun s a v i => ?_)
    (fun _ _ i => i) (fun _ _ i => i)
  by_cases h : IsSoundReg a
  · obtain ⟨e, h'⟩ := writeSound_eq s a v
    rw [memWrite_sound s v h, h']
    exact hw _ _ _ i
  · rw [memWrite_snd s v h]
    exact i

end Sys2Proof.Machine
end

