-- ==== Sys2Proof/Laws/Alike.lean ====
section
/-! SUPPORT. Two states that agree on the CPU, the bus, the countdowns, the sound registers' bytes, the session
cycles, the draws and `DAA_MODE`: every operation of an instruction takes them to states that agree again. -/

namespace Sys2Proof.Machine

open Sys2Proof Sys2Proof.Laws

/-- Agreement on all that the CPU's side depends on. -/
structure Alike (s s' : State) : Prop where
  cpu : s'.cpu = s.cpu
  bus : s'.bus = s.bus
  timers : s'.timers = s.timers
  regs : s'.snd.regs = s.snd.regs
  sessionCycles : s'.sessionCycles = s.sessionCycles
  draws : s'.draws = s.draws
  daaMode : s'.host.daaMode = s.host.daaMode

theorem Alike.refl (s : State) : Alike s s := ⟨rfl, rfl, rfl, rfl, rfl, rfl, rfl⟩

/-! ### What is read alike -/

theorem Alike.peek {s s' : State} (h : Alike s s') (a : Word) : s'.peek a = s.peek a :=
  peek_congr h.bus h.regs h.draws a
theorem Alike.reg8 {s s' : State} (h : Alike s s') (r : Reg8) : s'.reg8 r = s.reg8 r := by
  cases r <;> simp only [State.reg8, h.cpu]
theorem Alike.hl {s s' : State} (h : Alike s s') : s'.hl = s.hl := by simp only [State.hl, h.cpu]
theorem Alike.pair {s s' : State} (h : Alike s s') (p : Pair) : s'.pair p = s.pair p := by
  cases p <;> simp only [State.pair, State.bc, State.de, State.hl, h.cpu]
theorem Alike.stackPair {s s' : State} (h : Alike s s') (p : StackPair) : s'.stackPair p = s.stackPair p := by
  cases p <;> simp only [State.stackPair, State.bc, State.de, State.hl, State.af, h.cpu]
theorem Alike.flagZ {s s' : State} (h : Alike s s') : s'.flagZ = s.flagZ := by simp only [State.flagZ, h.cpu]
theorem Alike.flagN {s s' : State} (h : Alike s s') : s'.flagN = s.flagN := by simp only [State.flagN, h.cpu]
theorem Alike.flagH {s s' : State} (h : Alike s s') : s'.flagH = s.flagH := by simp only [State.flagH, h.cpu]
theorem Alike.flagC {s s' : State} (h : Alike s s') : s'.flagC = s.flagC := by simp only [State.flagC, h.cpu]
theorem Alike.cond {s s' : State} (h : Alike s s') (cc : Cond) : s'.cond cc = s.cond cc := by
  cases cc <;> simp only [State.cond, h.flagZ, h.flagC]
theorem Alike.carryIn {s s' : State} (h : Alike s s') : s'.carryIn = s.carryIn := by
  simp only [State.carryIn, h.flagC]
theorem Alike.effective {s s' : State} (h : Alike s s') (m : AddrMode) : s'.effective m = s.effective m := by
  cases m <;> simp only [State.effective, State.bc, State.de, State.hl, h.cpu]

/-! ### What is written alike -/

/-- Writing equal CPUs. -/
theorem Alike.withCpu {s s' : State} (h : Alike s s') {c c' : Cpu} (e : c' = c) :
    Alike { s with cpu := c } { s' with cpu := c' } := { h with cpu := e }

theorem Alike.setReg8 {s s' : State} (h : Alike s s') (r : Reg8) {v v' : Byte} (e : v' = v) :
    Alike (s.setReg8 r v) (s'.setReg8 r v') := by
  subst e
  refine h.withCpu ?_
  cases r <;> rw [h.cpu]
theorem Alike.setHl {s s' : State} (h : Alike s s') {v v' : Word} (e : v' = v) :
    Alike (s.setHl v) (s'.setHl v') := h.withCpu (by rw [h.cpu, e])
theorem Alike.setSp {s s' : State} (h : Alike s s') {v v' : Word} (e : v' = v) :
    Alike (s.setSp v) (s'.setSp v') := h.withCpu (by rw [h.cpu, e])
theorem Alike.setPc {s s' : State} (h : Alike s s') {v v' : Word} (e : v' = v) :
    Alike (s.setPc v) (s'.setPc v') := h.withCpu (by rw [h.cpu, e])
theorem Alike.setIme {s s' : State} (h : Alike s s') (v : Bool) : Alike (s.setIme v) (s'.setIme v) :=
  h.withCpu (by rw [h.cpu])
theorem Alike.setHalted {s s' : State} (h : Alike s s') (v : Bool) : Alike (s.setHalted v) (s'.setHalted v) :=
  h.withCpu (by rw [h.cpu])
theorem Alike.setF {s s' : State} (h : Alike s s') {v v' : Byte} (e : v' = v) : Alike (s.setF v) (s'.setF v') :=
  h.withCpu (by rw [h.cpu, e])
theorem Alike.setFlags {s s' : State} (h : Alike s s') {z z' n n' hf hf' c c' : Bool} (e : z' = z) (e1 : n' = n)
    (e2 : hf' = hf) (e3 : c' = c) : Alike (s.setFlags z n hf c) (s'.setFlags z' n' hf' c') :=
  h.setF (by rw [e, e1, e2, e3])

theorem Alike.setPair {s s' : State} (h : Alike s s') (p : Pair) {v v' : Word} (e : v' = v) :
    Alike (s.setPair p v) (s'.setPair p v') := by
  cases p
  · exact h.withCpu (by rw [h.cpu, e])
  · exact h.withCpu (by rw [h.cpu, e])
  · exact h.setHl e
  · exact h.setSp e

theorem Alike.setStackPair {s s' : State} (h : Alike s s') (p : StackPair) {v v' : Word} (e : v' = v) :
    Alike (s.setStackPair p v) (s'.setStackPair p v') := by
  cases p
  · exact h.setPair .bc e
  · exact h.setPair .de e
  · exact h.setHl e
  · exact (h.setReg8 .a (by rw [e])).setF (by rw [e])

theorem Alike.afterRead {s s' : State} (h : Alike s s') {a a' : Word} (e : a' = a) :
    Alike (s.afterRead a) (s'.afterRead a') := by
  subst e
  unfold State.afterRead
  split
  · split
    · exact { h with draws := congrArg (· + 1) h.draws }
    · exact { h with }
    · exact h
  · exact h

theorem selectBank_alike {s s' : State} (h : Alike s s') (v : Byte) : Alike (s.selectBank v) (s'.selectBank v) := by
  obtain ⟨e, w, h1⟩ := selectBank_eq s v
  obtain ⟨e', w', h2⟩ := selectBank_eq s' v
  rw [h1, h2]
  exact { h with bus := by rw [h.bus] }

theorem Alike.memWrite {s s' : State} (h : Alike s s') {a a' : Word} {v v' : Byte} (e : a' = a) (ev : v' = v) :
    Alike (s.memWrite a v) (s'.memWrite a' v') := by
  subst e ev
  have ram : Alike (s.writeRam a' v') (s'.writeRam a' v') := { h with bus := by simp only [State.writeRam, h.bus] }
  unfold State.memWrite
  split
  · split
    · exact selectBank_alike h v'
    · exact h
  · exact h
  · exact ram
  · exact ram
  · unfold State.writeIo
    split
    · exact h
    · rw [reprogramTimer_eq, reprogramTimer_eq]
      exact { h with bus := by simp only [h.bus], timers := by simp only [h.bus, h.timers] }
    · rw [reprogramTimer_eq, reprogramTimer_eq]
      exact { h with bus := by simp only [h.bus], timers := by simp only [h.bus, h.timers] }
    · obtain ⟨ev, h1⟩ := writeSound_eq s a' v'
      obtain ⟨ev', h2⟩ := writeSound_eq s' a' v'
      rw [h1, h2]
      exact { h with regs := by simp only [Sound.write_regs, h.regs] }
    · exact ram
    · exact { h with bus := by simp only [h.bus] }
    · exact { h with }
  · exact h

theorem Alike.push16 {s s' : State} (h : Alike s s') {v v' : Word} (e : v' = v) :
    Alike (s.push16 v) (s'.push16 v') := by
  subst e
  rw [push16_eq, push16_eq]
  exact ((h.memWrite (by rw [h.cpu]) rfl).memWrite (by rw [h.cpu]) rfl).setSp (by rw [h.cpu])

theorem Alike.pop16 {s s' : State} (h : Alike s s') : s'.pop16.1 = s.pop16.1 ∧ Alike s.pop16.2 s'.pop16.2 := by
  have h1 := h.afterRead (a := s.cpu.sp) (a' := s'.cpu.sp) (by rw [h.cpu])
  rw [pop16_eq, pop16_eq]
  refine ⟨?_, (h1.afterRead (by rw [h.cpu])).setSp (by rw [h.cpu])⟩
  show poppedWord s' = poppedWord s
  unfold poppedWord
  rw [h1.peek, h.peek, h.cpu]

theorem Alike.popPc {s s' : State} (h : Alike s s') : Alike s.popPc s'.popPc := h.pop16.2.setPc h.pop16.1

theorem Alike.readOpnd {s s' : State} (h : Alike s s') (o : Opnd) :
    (s'.readOpnd o).1 = (s.readOpnd o).1 ∧ Alike (s.readOpnd o).2 (s'.readOpnd o).2 := by
  cases o with
  | reg r => exact ⟨h.reg8 r, h⟩
  | mem => exact ⟨by simp only [State.readOpnd, State.memRead, h.peek, h.hl], h.afterRead h.hl⟩

theorem Alike.writeOpnd {s s' : State} (h : Alike s s') (o : Opnd) {v v' : Byte} (e : v' = v) :
    Alike (s.writeOpnd o v) (s'.writeOpnd o v') := by
  cases o with
  | reg r => exact h.setReg8 r e
  | mem => exact h.memWrite h.hl e

theorem Alike.alu {s s' : State} (h : Alike s s') (op : AluOp) {x x' : Byte} (e : x' = x) :
    Alike (s.alu op x) (s'.alu op x') := by
  subst e
  have ha := h.cpu
  have hc := h.carryIn
  cases op <;> simp only [State.alu, State.flagsAdd, State.flagsSub, ha, hc]
  case cp => exact h.setFlags rfl rfl rfl rfl
  all_goals exact (h.setReg8 .a rfl).setFlags rfl rfl rfl rfl

theorem Alike.fetch8 {s s' : State} (h : Alike s s') : s'.fetch8.1 = s.fetch8.1 ∧ Alike s.fetch8.2 s'.fetch8.2 :=
  ⟨by simp only [State.fetch8, State.memRead, h.peek, h.cpu], (h.afterRead (by rw [h.cpu])).setPc (by rw [h.cpu])⟩

theorem Alike.fetchInstr {s s' : State} (h : Alike s s') :
    s'.fetchInstr.1 = s.fetchInstr.1 ∧ Alike s.fetchInstr.2 s'.fetchInstr.2 := by
  obtain ⟨b0, h0⟩ := h.fetch8
  obtain ⟨b1, h1⟩ := h0.fetch8
  obtain ⟨b2, h2⟩ := h1.fetch8
  unfold State.fetchInstr
  simp only [b0]
  split
  · exact ⟨by simp only [b1], h1⟩
  · exact ⟨by simp only [b1, b2], h2⟩
  · exact ⟨rfl, h0⟩

theorem Alike.raiseFatal {s s' : State} (h : Alike s s') (r : StopReason) :
    Alike (s.raiseFatal r) (s'.raiseFatal r) := { h with cpu := by simp only [State.raiseFatal, State.charge, h.cpu] }

theorem Alike.note {s s' : State} (h : Alike s s') (e : HostEvent) : Alike (s.note e) (s'.note e) := { h with }

theorem Alike.deliverInterrupt {s s' : State} (h : Alike s s') (vector : Word) :
    Alike (s.deliverInterrupt vector) (s'.deliverInterrupt vector) := by
  have h1 := (h.setHalted false).setIme false
  exact (h1.push16 (by rw [h1.cpu])).setPc rfl

theorem Alike.fire {s s' : State} (h : Alike s s') (bit : Nat) (vector : Word) :
    Alike (s.fire bit vector).1 (s'.fire bit vector).1 := by
  rw [State.fire_eq, State.fire_eq]
  have : s'.delivers bit = s.delivers bit := by simp only [State.delivers, h.cpu, h.bus]
  rw [this]
  split
  · exact h.deliverInterrupt vector
  · exact h

theorem Alike.runFor {s s' : State} (h : Alike s s') (c : Nat) : Alike (s.runFor c) (s'.runFor c) where
  cpu := h.cpu
  bus := h.bus
  timers := h.timers
  regs := by rw [runFor_regs, runFor_regs, h.regs]
  sessionCycles := congrArg (· + c) h.sessionCycles
  draws := h.draws
  daaMode := h.daaMode

theorem Alike.vblankCheck {s s' : State} (h : Alike s s') (c : Nat) :
    Alike (s.vblankCheck c).1 (s'.vblankCheck c).1 := by
  unfold State.vblankCheck
  simp only [h.timers]
  split
  · apply Alike.fire
    exact ⟨h.cpu, h.bus, rfl, h.regs, h.sessionCycles, h.draws, h.daaMode⟩
  · exact ⟨h.cpu, h.bus, rfl, h.regs, h.sessionCycles, h.draws, h.daaMode⟩

theorem Alike.timerCheck {s s' : State} (h : Alike s s') (c : Nat) :
    Alike (s.timerCheck c).1 (s'.timerCheck c).1 := by
  unfold State.timerCheck
  simp only [h.timers]
  split
  · split
    · apply Alike.fire
      exact ⟨h.cpu, h.bus, rfl, h.regs, h.sessionCycles, h.draws, h.daaMode⟩
    · exact ⟨h.cpu, h.bus, rfl, h.regs, h.sessionCycles, h.draws, h.daaMode⟩
  · exact h

theorem Alike.afterCpuStep {s s' : State} (h : Alike s s') (c : Nat) :
    Alike (s.afterCpuStep c) (s'.afterCpuStep c) := by
  rw [State.afterCpuStep_eq, State.afterCpuStep_eq]
  exact ((h.runFor c).vblankCheck c).timerCheck c

/-! ### Instructions -/

/-- Two outcomes that are next states which agree, with equal cycles, or both the same refusal. -/
def OutAlike (o o' : Out) : Prop :=
  (∃ t t', o = .next t ∧ o' = .next t' ∧ Alike t t' ∧ t'.cycles = t.cycles) ∨ ∃ r, o = .refused r ∧ o' = .refused r

theorem Alike.done {s s' : State} (h : Alike s s') (n : Nat) : OutAlike (s.done n) (s'.done n) :=
  .inl ⟨_, _, rfl, rfl, { h with }, rfl⟩

theorem outAlike_ite {b b' : Bool} {o o' p p' : Out} (e : b' = b) (h : OutAlike o o') (h' : OutAlike p p') :
    OutAlike (if b then o else p) (if b' then o' else p') := by
  subst e
  cases b'
  · exact h'
  · exact h

/-- Every instruction takes states that agree to states that agree. -/
theorem exec_alike (i : Instr) : ∀ {s s' : State}, Alike s s' → OutAlike (exec i s) (exec i s') := by
  refine instr_by_family (P := fun i => ∀ {s s' : State}, Alike s s' → OutAlike (exec i s) (exec i s')) ?ld ?ldImm ?ldFromHl ?ldToHl
    ?ldPair ?pop ?push ?alu ?aluImm ?inc ?dec ?addHl ?incPair ?decPair ?rot ?bit ?res ?set ?jpIf ?jrIf
    ?callIf ?retIf ?rst ?illegal ?nop ?ldMbcA ?rlca ?ldMa16Sp ?ldAMbc ?rrca ?stop ?ldMdeA ?rla ?jrE8
    ?ldAMde ?rra ?ldMhliA ?daa ?ldAMhli ?cpl ?ldMhldA ?ldMhlD8 ?scf ?ldAMhld ?ccf ?halt ?jpA16 ?ret
    ?cbPrefix ?callA16 ?reti ?ldhMa8A ?ldMcA ?addSpE8 ?jpHl ?ldMa16A ?ldhAMa8 ?ldAMc ?di ?ldHlSpE8
    ?ldSpHl ?ldAMa16 ?ei i
  case ld => intro dst r s s' h; rw [exec_ldOf, exec_ldOf]; exact (h.setReg8 _ (h.reg8 _)).done _
  case ldImm => intro dst n s s' h; rw [exec_ldImmOf, exec_ldImmOf]; exact (h.setReg8 _ rfl).done _
  case ldFromHl =>
    intro dst s s' h
    rw [exec_ldFromHlOf, exec_ldFromHlOf]
    exact ((h.afterRead (h.effective _)).setReg8 _ (by rw [State.memRead, State.memRead, h.effective, h.peek])).done _
  case ldToHl =>
    intro r s s' h
    rw [exec_ldToHlOf, exec_ldToHlOf]
    exact (h.memWrite (h.effective _) (h.reg8 _)).done _
  case ldPair => intro p nn s s' h; rw [exec_ldPairOf, exec_ldPairOf]; exact (h.setPair _ rfl).done _
  case pop =>
    intro p s s' h
    rw [exec_popOf, exec_popOf]
    exact (h.pop16.2.setStackPair _ h.pop16.1).done _
  case push => intro p s s' h; rw [exec_pushOf, exec_pushOf]; exact (h.push16 (h.stackPair p)).done _
  case alu =>
    intro op o s s' h
    rw [exec_aluOf, exec_aluOf]
    exact ((h.readOpnd o).2.alu op (h.readOpnd o).1).done _
  case aluImm => intro op n s s' h; rw [exec_aluImmOf, exec_aluImmOf]; exact (h.alu op rfl).done _
  case inc =>
    intro o s s' h; rw [exec_incOf, exec_incOf]
    have h1 := (h.readOpnd o)
    have h2 := h1.2.writeOpnd o (congrArg (· + 1#8) h1.1)
    exact (h2.setFlags (by rw [h1.1]) rfl (by rw [h1.1]) h2.flagC).done _
  case dec =>
    intro o s s' h; rw [exec_decOf, exec_decOf]
    have h1 := (h.readOpnd o)
    have h2 := h1.2.writeOpnd o (congrArg (· - 1#8) h1.1)
    exact (h2.setFlags (by rw [h1.1]) rfl (by rw [h1.1]) h2.flagC).done _
  case addHl =>
    intro p s s' h
    rw [exec_addHlOf, exec_addHlOf]
    exact ((h.setHl (by rw [h.hl, h.pair])).setFlags h.flagZ rfl (by rw [h.hl, h.pair]) (by rw [h.hl, h.pair])).done _
  case incPair =>
    intro p s s' h
    rw [exec_incPairOf, exec_incPairOf]
    exact (h.setPair _ (by rw [h.pair])).done _
  case decPair =>
    intro p s s' h
    rw [exec_decPairOf, exec_decPairOf]
    exact (h.setPair _ (by rw [h.pair])).done _
  case rot =>
    intro op o s s' h; rw [exec_rotOf, exec_rotOf]
    have h1 := (h.readOpnd o)
    exact ((h1.2.writeOpnd o (by rw [h1.1, h.flagC])).setFlags (by rw [h1.1, h.flagC]) rfl rfl (by rw [h1.1, h.flagC])).done _
  case bit =>
    intro op o s s' h; rw [exec_bitOf, exec_bitOf]
    have h1 := (h.readOpnd o)
    exact (h1.2.setFlags (by rw [h1.1]) rfl rfl h.flagC).done _
  case res =>
    intro op o s s' h; rw [exec_resOf, exec_resOf]
    have h1 := (h.readOpnd o)
    exact (h1.2.writeOpnd o (by rw [h1.1])).done _
  case set =>
    intro op o s s' h; rw [exec_setOf, exec_setOf]
    have h1 := (h.readOpnd o)
    exact (h1.2.writeOpnd o (by rw [h1.1])).done _
  case jpIf =>
    intro cc nn s s' h
    rw [exec_jpIfOf, exec_jpIfOf]
    exact outAlike_ite (h.cond cc) ((h.setPc rfl).done _) (h.done _)
  case jrIf =>
    intro cc nn s s' h
    rw [exec_jrIfOf, exec_jrIfOf]
    exact outAlike_ite (h.cond cc) ((h.setPc (by rw [h.cpu])).done _) (h.done _)
  case callIf =>
    intro cc nn s s' h
    rw [exec_callIfOf, exec_callIfOf]
    exact outAlike_ite (h.cond cc) (((h.push16 (by rw [h.cpu])).setPc rfl).done _) (h.done _)
  case retIf =>
    intro cc s s' h
    rw [exec_retIfOf, exec_retIfOf]
    exact outAlike_ite (h.cond cc) (h.popPc.done _) (h.done _)
  case rst =>
    intro y s s' h
    rw [exec_rstOf, exec_rstOf]
    exact ((h.push16 (by rw [h.cpu])).setPc rfl).done _
  case illegal =>
    intro r hr s s' h; rw [exec_illegal r hr, exec_illegal r hr]
    refine .inl ⟨_, _, rfl, rfl, ?_, rfl⟩
    rw [h.cpu]; exact (h.note _).raiseFatal _
  case stop => intro s s' h; exact .inl ⟨_, _, rfl, rfl, h.raiseFatal _, rfl⟩
  case nop => intro s s' h; exact h.done _
  case ldMbcA => intro s s' h; exact (h.memWrite (h.effective .bc) (h.reg8 .a)).done _
  case ldMdeA => intro s s' h; exact (h.memWrite (h.effective .de) (h.reg8 .a)).done _
  case ldMcA => intro s s' h; exact (h.memWrite (h.effective .highC) (h.reg8 .a)).done _
  case ldMhlD8 => intro n s s' h; exact (h.memWrite h.hl rfl).done _
  case ldhMa8A => intro n s s' h; exact (h.memWrite (h.effective (.high n)) (h.reg8 .a)).done _
  case ldMa16A => intro n s s' h; exact (h.memWrite (h.effective (.abs n)) (h.reg8 .a)).done _
  case ldMa16Sp =>
    intro n s s' h
    exact ((h.memWrite rfl (by rw [h.cpu])).memWrite rfl (by rw [h.cpu])).done _
  case ldMhliA => intro s s' h; exact ((h.memWrite h.hl (by rw [h.cpu])).setHl (by rw [h.hl])).done _
  case ldMhldA => intro s s' h; exact ((h.memWrite h.hl (by rw [h.cpu])).setHl (by rw [h.hl])).done _
  case ldAMbc =>
    intro s s' h
    exact ((h.afterRead (h.effective .bc)).setReg8 .a (by rw [State.memRead, State.memRead, h.effective, h.peek])).done _
  case ldAMde =>
    intro s s' h
    exact ((h.afterRead (h.effective .de)).setReg8 .a (by rw [State.memRead, State.memRead, h.effective, h.peek])).done _
  case ldAMc =>
    intro s s' h
    exact ((h.afterRead (h.effective .highC)).setReg8 .a (by rw [State.memRead, State.memRead, h.effective, h.peek])).done _
  case ldhAMa8 =>
    intro n s s' h
    exact ((h.afterRead (h.effective (.high n))).setReg8 .a (by rw [State.memRead, State.memRead, h.effective, h.peek])).done _
  case ldAMa16 =>
    intro n s s' h
    exact ((h.afterRead (h.effective (.abs n))).setReg8 .a (by rw [State.memRead, State.memRead, h.effective, h.peek])).done _
  case ldAMhli =>
    intro s s' h
    exact (((h.afterRead h.hl).setReg8 .a (by rw [State.memRead, State.memRead, h.hl, h.peek])).setHl (by rw [h.hl])).done _
  case ldAMhld =>
    intro s s' h
    exact (((h.afterRead h.hl).setReg8 .a (by rw [State.memRead, State.memRead, h.hl, h.peek])).setHl (by rw [h.hl])).done _
  case rlca =>
    intro s s' h
    exact ((h.setReg8 .a (by rw [h.cpu, h.flagC])).setFlags rfl rfl rfl (by rw [h.cpu, h.flagC])).done _
  case rrca =>
    intro s s' h
    exact ((h.setReg8 .a (by rw [h.cpu, h.flagC])).setFlags rfl rfl rfl (by rw [h.cpu, h.flagC])).done _
  case rla =>
    intro s s' h
    exact ((h.setReg8 .a (by rw [h.cpu, h.flagC])).setFlags rfl rfl rfl (by rw [h.cpu, h.flagC])).done _
  case rra =>
    intro s s' h
    exact ((h.setReg8 .a (by rw [h.cpu, h.flagC])).setFlags rfl rfl rfl (by rw [h.cpu, h.flagC])).done _
  case cpl =>
    intro s s' h
    exact ((h.setReg8 .a (by rw [h.cpu])).setFlags h.flagZ rfl rfl h.flagC).done _
  case daa =>
    intro s s' h
    show OutAlike (opDaa s.host.daaMode 4 s) (opDaa s'.host.daaMode 4 s')
    rw [h.daaMode]
    unfold opDaa
    simp only [h.cpu, h.flagN, h.flagH, h.flagC]
    split
    · exact (h.setReg8 .a rfl).done _
    · exact ((h.setReg8 .a rfl).setFlags rfl rfl rfl rfl).done _
    · exact .inr ⟨_, rfl, rfl⟩
  case scf => intro s s' h; exact (h.setFlags h.flagZ rfl rfl rfl).done _
  case ccf => intro s s' h; exact (h.setFlags h.flagZ rfl rfl (by rw [h.flagC])).done _
  case halt => intro s s' h; exact (h.setHalted _).done _
  case di => intro s s' h; exact (h.setIme _).done _
  case ei => intro s s' h; exact (h.setIme _).done _
  case jrE8 => intro e s s' h; exact (h.setPc (by rw [h.cpu])).done _
  case jpA16 => intro e s s' h; exact (h.setPc rfl).done _
  case jpHl => intro s s' h; exact (h.setPc h.hl).done _
  case ret => intro s s' h; exact h.popPc.done _
  case reti => intro s s' h; exact (h.popPc.setIme _).done _
  case callA16 => intro nn s s' h; exact ((h.push16 (by rw [h.cpu])).setPc rfl).done _
  case addSpE8 =>
    intro e s s' h
    exact ((h.setSp (by rw [h.cpu])).setFlags rfl rfl (by rw [h.cpu]) (by rw [h.cpu])).done _
  case ldHlSpE8 =>
    intro e s s' h
    exact ((h.setHl (by rw [h.cpu])).setFlags rfl rfl (by rw [h.cpu]) (by rw [h.cpu])).done _
  case ldSpHl => intro s s' h; exact (h.setSp h.hl).done _
  case cbPrefix =>
    intro op2 s s' h
    show OutAlike (opCb op2 s) (opCb op2 s')
    unfold opCb
    simp only
    generalize opndOf (op2.toNat % 8) = o
    have h1 := (h.readOpnd o)
    split
    · exact ((h1.2.writeOpnd o (by rw [h1.1, h.flagC])).setFlags (by rw [h1.1, h.flagC]) rfl rfl (by rw [h1.1, h.flagC])).done _
    · exact (h1.2.setFlags (by rw [h1.1]) rfl rfl h.flagC).done _
    · exact (h1.2.writeOpnd o (by rw [h1.1])).done _
    · exact (h1.2.writeOpnd o (by rw [h1.1])).done _

/-- So does every CPU step. -/
theorem cpuStep_alike {s s' : State} (h : Alike s s') : OutAlike s.cpuStep s'.cpuStep := by
  unfold State.cpuStep
  rw [h.cpu]
  split
  · split
    · exact h.done _
    · exact .inl ⟨_, _, rfl, rfl, h.raiseFatal _, rfl⟩
  · unfold State.fetchExecute
    simp only [h.fetchInstr.1]
    obtain ⟨i, hw, hd⟩ := fetchInstr_decodes s
    rw [hd]
    exact exec_alike i h.fetchInstr.2

end Sys2Proof.Machine
end

