-- ==== Sys2Proof/Laws/SoundInv.lean ====
section
/-! SUPPORT. The ranges of the sound unit's fields under each of its operations. -/

namespace Sys2Proof.Machine

open Sys2Proof

theorem field_lt (v : Byte) (lo n : Nat) : field v lo n < 2 ^ n := Nat.mod_lt _ (Nat.two_pow_pos n)

theorem freqPeriod_range (f : BitVec 11) : 1 ≤ freqPeriod f ∧ freqPeriod f ≤ 2048 := by
  have := f.isLt
  unfold freqPeriod
  omega

theorem noiseDivisor_pos (r : Nat) : 1 ≤ noiseDivisor r := by
  unfold noiseDivisor
  split <;> omega

theorem noisePeriod_pos (r s : Nat) : 1 ≤ noiseDivisor r <<< s := by
  rw [Nat.shiftLeft_eq]
  exact Nat.mul_pos (noiseDivisor_pos r) (Nat.two_pow_pos s)

theorem Voice.InRange.trigger {c : Voice} {mv ml n : Nat} (h : c.InRange mv ml) (hn : 1 ≤ n) :
    (c.trigger ml n).InRange mv ml := by
  obtain ⟨h1, h2, h3, h4, h5⟩ := h
  unfold Voice.trigger
  refine ⟨h1, h1, ?_, h4, hn⟩
  simp only
  split <;> omega

theorem Voice.InRange.lengthStep {c : Voice} {mv ml : Nat} (h : c.InRange mv ml) : c.lengthStep.InRange mv ml := by
  obtain ⟨h1, h2, h3, h4, h5⟩ := h
  unfold Voice.lengthStep
  split
  · split
    · exact ⟨h1, Nat.zero_le _, Nat.zero_le _, h4, h5⟩
    · exact ⟨h1, h2, by simp only; omega, h4, h5⟩
  · exact ⟨h1, h2, h3, h4, h5⟩

theorem Voice.InRange.envelopeStep {c : Voice} {ml : Nat} (h : c.InRange 15 ml) (e : Envelope) :
    (c.envelopeStep e).InRange 15 ml := by
  obtain ⟨h1, h2, h3, h4, h5⟩ := h
  unfold Voice.envelopeStep
  split
  · split
    · refine ⟨h1, ?_, h3, h4, h5⟩
      simp only
      split <;> omega
    · exact ⟨h1, by simp only; omega, h3, h4, h5⟩
  · exact ⟨h1, h2, h3, h4, h5⟩

theorem Voice.lengthStep_divTc (c : Voice) : c.lengthStep.divTc = c.divTc := by
  unfold Voice.lengthStep
  split
  · split <;> rfl
  · rfl

theorem Voice.envelopeStep_divTc (c : Voice) (e : Envelope) : (c.envelopeStep e).divTc = c.divTc := by
  unfold Voice.envelopeStep
  split
  · split <;> rfl
  · rfl

theorem Envelope.step_period (e : Envelope) : e.step.period = e.period := by
  unfold Envelope.step
  split <;> rfl

/-! ### The channels -/

theorem Pulse.InRange.writeControl {p : Pulse} (h : p.InRange) (v : Byte) : (p.writeControl v).InRange := by
  obtain ⟨⟨h1, h2, h3, h4, h5⟩, h6, h7, h8, h9⟩ := h
  have f := freqPeriod_range (freqHigh p.freq v)
  have w : (p.writeFreqHigh v).InRange := ⟨⟨h1, h2, h3, f.1, h5⟩, f.2, h7, h8, h9⟩
  unfold Pulse.writeControl
  split
  · refine ⟨w.1.trigger ?_, w.2.1, w.2.2.1, w.2.2.2.1, w.2.2.2.2⟩
    unfold Pulse.reload
    have := w.1.2.2.2.1
    omega
  · exact w

theorem Wave.InRange.writeControl {p : Wave} (h : p.InRange) (v : Byte) : (p.writeControl v).InRange := by
  obtain ⟨⟨h1, h2, h3, h4, h5⟩, h6, h7⟩ := h
  have f := freqPeriod_range (freqHigh p.freq v)
  have w : (p.writeFreqHigh v).InRange := ⟨⟨h1, h2, h3, f.1, h5⟩, f.2, h7⟩
  unfold Wave.writeControl
  split
  · refine ⟨w.1.trigger ?_, w.2.1, Nat.zero_le _⟩
    unfold Wave.reload
    have := w.1.2.2.2.1
    omega
  · exact w

theorem Noise.InRange.writeControl {p : Noise} (h : p.InRange) (v : Byte) : (p.writeControl v).InRange := by
  obtain ⟨⟨h1, h2, h3, h4, h5⟩, h6, h7, h8, h9⟩ := h
  unfold Noise.writeControl
  simp only
  split
  · exact ⟨Voice.InRange.trigger ⟨h1, h2, h3, h4, h5⟩ h4, h6, h7, h8, h9⟩
  · exact ⟨⟨h1, h2, h3, h4, h5⟩, h6, h7, h8, h9⟩

theorem Pulse.InRange.tick {p : Pulse} (h : p.InRange) : p.tick.InRange := by
  obtain ⟨h1, h6, h7, h8, h9⟩ := h
  refine ⟨h1.lengthStep.envelopeStep _, ?_, h7, h8, ?_⟩
  · show (p.voice.lengthStep.envelopeStep p.env).divTc ≤ 2048
    rw [Voice.envelopeStep_divTc, Voice.lengthStep_divTc]
    exact h6
  · exact (Envelope.step_period _).trans_le h9

theorem Noise.InRange.tick {p : Noise} (h : p.InRange) : p.tick.InRange := by
  obtain ⟨h1, h6, h7, h8, h9⟩ := h
  refine ⟨h1.lengthStep.envelopeStep _, h6, h7, ?_, (Envelope.step_period _).trans_le h9⟩
  show (p.voice.lengthStep.envelopeStep p.env).divTc = _
  rw [Voice.envelopeStep_divTc, Voice.lengthStep_divTc]
  exact h8

theorem Wave.InRange.tick {p : Wave} (h : p.InRange) : p.tick.InRange := by
  obtain ⟨h1, h6, h7⟩ := h
  refine ⟨h1.lengthStep, ?_, h7⟩
  show p.voice.lengthStep.divTc ≤ 2048
  rw [Voice.lengthStep_divTc]
  exact h6

/-- A swept period stays in the range of a frequency's (61_sound.md R453). -/
theorem sweptPeriod_range (w : Sweep) {n : Nat} (hs : 0 < w.shift) (h1 : 1 ≤ n) (h2 : n ≤ 2048) :
    1 ≤ sweptPeriod w n ∧ sweptPeriod w n ≤ 2048 := by
  have hd : n / 2 ^ w.shift ≤ n / 2 := by
    apply Nat.div_le_div_left _ (by omega)
    calc 2 = 2 ^ 1 := rfl
      _ ≤ 2 ^ w.shift := Nat.pow_le_pow_right (by omega) hs
  unfold sweptPeriod
  simp only
  generalize n / 2 ^ w.shift = d at *
  split <;> split <;> omega

theorem Pulse.InRange.sweepStep {p : Pulse} (h : p.InRange) (w : Sweep) : (p.sweepStep w).InRange := by
  obtain ⟨⟨h1, h2, h3, h4, h5⟩, h6, h7, h8, h9⟩ := h
  unfold Pulse.sweepStep
  split
  · next hs =>
    have := sweptPeriod_range w hs.2.2 h4 h6
    exact ⟨⟨h1, h2, h3, this.1, h5⟩, this.2, h7, h8, h9⟩
  · exact ⟨⟨h1, h2, h3, h4, h5⟩, h6, h7, h8, h9⟩

theorem Pulse.InRange.divide {p : Pulse} (h : p.InRange) : p.divide.InRange := by
  obtain ⟨⟨h1, h2, h3, h4, h5⟩, h6, h7, h8, h9⟩ := h
  unfold Pulse.divide Pulse.reload
  split
  · exact ⟨⟨h1, h2, h3, h4, by simp only; omega⟩, h6, h7, by simp only; omega, h9⟩
  · exact ⟨⟨h1, h2, h3, h4, by simp only; omega⟩, h6, h7, h8, h9⟩

theorem Wave.InRange.divide {p : Wave} (h : p.InRange) : p.divide.InRange := by
  obtain ⟨⟨h1, h2, h3, h4, h5⟩, h6, h7⟩ := h
  unfold Wave.divide Wave.reload
  split
  · exact ⟨⟨h1, h2, h3, h4, by simp only; omega⟩, h6, by simp only; omega⟩
  · exact ⟨⟨h1, h2, h3, h4, by simp only; omega⟩, h6, h7⟩

theorem Noise.InRange.divide {p : Noise} (h : p.InRange) : p.divide.InRange := by
  obtain ⟨⟨h1, h2, h3, h4, h5⟩, h6, h7, h8, h9⟩ := h
  unfold Noise.divide Noise.reload
  split
  · exact ⟨⟨h1, h2, h3, h4, h4⟩, h6, h7, h8, h9⟩
  · exact ⟨⟨h1, h2, h3, h4, by simp only; omega⟩, h6, h7, h8, h9⟩

/-! ### The outputs -/

theorem signedVolume_bound (up : Bool) {n : Nat} (h : n ≤ 15) : LevelBound (signedVolume up n) := by
  unfold LevelBound signedVolume
  split <;> omega

theorem Pulse.InRange.output {p : Pulse} (h : p.InRange) : LevelBound p.output := by
  unfold Pulse.output
  split
  · exact signedVolume_bound _ h.1.2.1
  · unfold LevelBound; omega

theorem Noise.InRange.output {p : Noise} (h : p.InRange) : LevelBound p.output := by
  unfold Noise.output
  split
  · exact signedVolume_bound _ h.1.2.1
  · unfold LevelBound; omega

theorem Wave.output_range (p : Wave) (regs : Memory) : 0 ≤ p.output regs ∧ p.output regs ≤ 15 := by
  unfold Wave.output
  split
  · omega
  · have h : waveSample regs p.wavePos ≤ 15 := by
      unfold waveSample
      simp only
      split
      · exact Nat.le_of_lt_succ (field_lt _ 4 4)
      · exact Nat.le_of_lt_succ (field_lt _ 0 4)
    have := Nat.div_le_self (waveSample regs p.wavePos) (2 ^ (p.voice.volume - 1))
    generalize waveSample regs p.wavePos / 2 ^ (p.voice.volume - 1) = x at *
    omega

/-! ### The unit -/

/-- A register write keeps the ranges. -/
theorem SoundInv.writeAction {s : Sound} (i : SoundInv s) (a : Nat) (v : Byte) : SoundInv (s.writeAction a v) := by
  obtain ⟨⟨⟨a1, a2, a3, a4, a5⟩, a6, a7, a8, a9⟩, ⟨⟨b1, b2, b3, b4, b5⟩, b6, b7, b8, b9⟩,
    ⟨⟨c1, c2, c3, c4, c5⟩, c6, c7⟩, ⟨⟨d1, d2, d3, d4, d5⟩, d6, d7, d8, d9⟩, sw, l1, l2, l3, l4, mv, sq⟩ := i
  have i : SoundInv s := ⟨⟨⟨a1, a2, a3, a4, a5⟩, a6, a7, a8, a9⟩, ⟨⟨b1, b2, b3, b4, b5⟩, b6, b7, b8, b9⟩,
    ⟨⟨c1, c2, c3, c4, c5⟩, c6, c7⟩, ⟨⟨d1, d2, d3, d4, d5⟩, d6, d7, d8, d9⟩, sw, l1, l2, l3, l4, mv, sq⟩
  have f3 : ∀ lo, field v lo 3 ≤ 7 := fun lo => Nat.le_of_lt_succ (field_lt v lo 3)
  have f4 : ∀ lo, field v lo 4 ≤ 15 := fun lo => Nat.le_of_lt_succ (field_lt v lo 4)
  have f2 : ∀ lo, field v lo 2 ≤ 3 := fun lo => Nat.le_of_lt_succ (field_lt v lo 2)
  have g := fun f => freqPeriod_range (freqLow f v)
  unfold Sound.writeAction
  split
  · exact { i with sweep := ⟨f3 4, f3 0⟩ }
  · exact { i with ch1 := ⟨⟨a1, a2, Nat.sub_le _ _, a4, a5⟩, a6, rfl, a8, a9⟩ }
  · exact { i with ch1 := ⟨⟨f4 4, a2, a3, a4, a5⟩, a6, a7, a8, f3 0⟩ }
  · exact { i with ch1 := ⟨⟨a1, a2, a3, (g _).1, a5⟩, (g _).2, a7, a8, a9⟩ }
  · refine { i with ch1 := i.ch1.writeControl v, sweep := ?_, level1 := ?_ }
    · show (s.sweep.writeControl v).period ≤ 7 ∧ (s.sweep.writeControl v).shift ≤ 7
      unfold Sweep.writeControl
      split <;> exact sw
    · show LevelBound (s.ch1.writeControl v).voice.level
      unfold Pulse.writeControl
      split <;> exact l1
  · exact { i with ch2 := ⟨⟨b1, b2, Nat.sub_le _ _, b4, b5⟩, b6, rfl, b8, b9⟩ }
  · exact { i with ch2 := ⟨⟨f4 4, b2, b3, b4, b5⟩, b6, b7, b8, f3 0⟩ }
  · exact { i with ch2 := ⟨⟨b1, b2, b3, (g _).1, b5⟩, (g _).2, b7, b8, b9⟩ }
  · refine { i with ch2 := i.ch2.writeControl v, level2 := ?_ }
    show LevelBound (s.ch2.writeControl v).voice.level
    unfold Pulse.writeControl
    split <;> exact l2
  · exact { i with ch3 := ⟨⟨c1, c2, c3, c4, c5⟩, c6, c7⟩ }
  · exact { i with ch3 := ⟨⟨c1, c2, Nat.sub_le _ _, c4, c5⟩, c6, c7⟩ }
  · exact { i with ch3 := ⟨⟨f2 5, f2 5, c3, c4, c5⟩, c6, c7⟩ }
  · exact { i with ch3 := ⟨⟨c1, c2, c3, (g _).1, c5⟩, (g _).2, c7⟩ }
  · refine { i with ch3 := i.ch3.writeControl v, level3 := ?_ }
    show 0 ≤ (s.ch3.writeControl v).voice.level ∧ (s.ch3.writeControl v).voice.level ≤ 15
    unfold Wave.writeControl
    split <;> exact l3
  · exact { i with ch4 := ⟨⟨d1, d2, Nat.sub_le _ _, d4, d5⟩, d6, d7, d8, d9⟩ }
  · exact { i with ch4 := ⟨⟨f4 4, d2, d3, d4, d5⟩, d6, d7, d8, f3 0⟩ }
  · exact { i with ch4 := ⟨⟨d1, d2, d3, noisePeriod_pos _ _, d5⟩, f3 0, f4 4, rfl, d9⟩ }
  · refine { i with ch4 := i.ch4.writeControl v, level4 := ?_ }
    show LevelBound (s.ch4.writeControl v).voice.level
    unfold Noise.writeControl
    simp only
    split <;> exact l4
  · exact { i with }
  · exact { i with }
  · exact i

theorem SoundInv.write {s : Sound} (i : SoundInv s) (a : Nat) (v : Byte) : SoundInv (s.write a v) :=
  SoundInv.writeAction (s := { s with regs := Memory.write s.regs a v }) { i with } a v

/-- The tick changes no level and keeps the ranges. -/
theorem SoundInv.tick {s : Sound} (i : SoundInv s) (fade : Int) : SoundInv (s.tick fade) := by
  have lv : ∀ c : Voice, c.lengthStep.level = c.level := by
    intro c
    unfold Voice.lengthStep
    split
    · split <;> rfl
    · rfl
  have ev : ∀ (c : Voice) e, (c.envelopeStep e).level = c.level := by
    intro c e
    unfold Voice.envelopeStep
    split
    · split <;> rfl
    · rfl
  have sv : ∀ (p : Pulse) w, (p.sweepStep w).voice.level = p.voice.level := by
    intro p w
    unfold Pulse.sweepStep
    split <;> rfl
  refine { ch1 := i.ch1.tick.sweepStep _, ch2 := i.ch2.tick, ch3 := i.ch3.tick, ch4 := i.ch4.tick, sweep := ?_,
           level1 := ?_, level2 := ?_, level3 := ?_, level4 := ?_, masterVolume := ?_, seqCtr := i.seqCtr }
  · show s.sweep.step.period ≤ 7 ∧ s.sweep.step.shift ≤ 7
    unfold Sweep.step
    split <;> exact i.sweep
  · show LevelBound (s.ch1.tick.sweepStep s.sweep).voice.level
    rw [sv]
    show LevelBound (s.ch1.voice.lengthStep.envelopeStep s.ch1.env).level
    rw [ev, lv]
    exact i.level1
  · show LevelBound (s.ch2.voice.lengthStep.envelopeStep s.ch2.env).level
    rw [ev, lv]
    exact i.level2
  · show 0 ≤ s.ch3.voice.lengthStep.level ∧ s.ch3.voice.lengthStep.level ≤ 15
    rw [lv]
    exact i.level3
  · show LevelBound (s.ch4.voice.lengthStep.envelopeStep s.ch4.env).level
    rw [ev, lv]
    exact i.level4
  · show 0 ≤ clampVolume _ ∧ clampVolume _ ≤ Config.masterVolMax
    unfold clampVolume Config.masterVolMax
    omega

theorem SoundInv.sequence {s : Sound} (i : SoundInv s) (fade : Int) : SoundInv (s.sequence fade) := by
  unfold Sound.sequence
  have h := i.seqCtr
  split
  · exact SoundInv.tick (s := { s with seqCtr := Config.seqPeriod })
      { i with seqCtr := ⟨(by decide : 1 ≤ Config.seqPeriod), Nat.le_refl _⟩ } fade
  · exact { i with seqCtr := ⟨by simp only; omega, by simp only; omega⟩ }

/-- The dividers and the levels keep the ranges. -/
theorem SoundInv.divide_levels {s : Sound} (i : SoundInv s) : SoundInv s.divide.levels :=
  { ch1 := i.ch1.divide, ch2 := i.ch2.divide, ch3 := i.ch3.divide, ch4 := i.ch4.divide, sweep := i.sweep,
    level1 := Pulse.InRange.output i.ch1.divide, level2 := Pulse.InRange.output i.ch2.divide,
    level3 := Wave.output_range _ _, level4 := Noise.InRange.output i.ch4.divide,
    masterVolume := i.masterVolume, seqCtr := i.seqCtr }

/-- A cycle keeps the ranges. -/
theorem SoundInv.cycle {s : Sound} (i : SoundInv s) (h : HostSide) : SoundInv (s.cycle h).1 := by
  obtain ⟨l, r, pos, bl, br, al, ar, out, e⟩ := s.cycle_eq h
  rw [e]
  exact { (i.sequence h.masterFade).divide_levels with }

/-- The reset values are in range. -/
theorem soundInv_reset (frames : Option Nat) : SoundInv (Sound.reset frames) := by
  have h : SoundInv (Sound.reset none) := by constructor <;> decide
  exact { h with }

/-! ### The resampler -/

/-- What a configured resampler is configured to. -/
theorem resampler_some {h : HostSide} {rate frames : Nat} (e : h.resampler = some (rate, frames)) :
    0 < rate ∧ rate < Config.clk ∧ 0 < frames := by
  unfold HostSide.resampler at e
  split at e
  · split at e
    · cases e
      assumption
    · cases e
  · cases e

/-- A cycle of a configured resampler keeps the buffers fitting and conserves the level. -/
theorem cycle_conserves {s : Sound} {h : HostSide} {rate frames : Nat} (e : h.resampler = some (rate, frames))
    (hk : KernelOk h.impulseTable) (hf : BuffersFit frames s) (hc : LevelConserved s) :
    BuffersFit frames (s.cycle h).1 ∧ LevelConserved (s.cycle h).1 := by
  obtain ⟨hr, hclk, hfr⟩ := resampler_some e
  obtain ⟨p1, p2, p3, p4⟩ := hf
  obtain ⟨q1, q2⟩ := hc
  unfold Sound.cycle Sound.cycleBody
  simp only
  have hseq : ∀ fade, BuffersFit frames (s.sequence fade) ∧ LevelConserved (s.sequence fade) := by
    intro fade
    unfold Sound.sequence
    split <;> exact ⟨⟨p1, p2, p3, p4⟩, q1, q2⟩
  obtain ⟨f, c⟩ := hseq h.masterFade
  have f' : BuffersFit frames (s.sequence h.masterFade).divide.levels := f
  have c' : LevelConserved (s.sequence h.masterFade).divide.levels := c
  generalize (s.sequence h.masterFade).divide.levels = w at *
  have emit : BuffersFit frames (w.emit h (w.mixL h) (w.mixR h)) ∧
      LevelConserved (w.emit h (w.mixL h) (w.mixR h)) := by
    obtain ⟨p1, p2, p3, p4⟩ := f'
    obtain ⟨q1, q2⟩ := c'
    have hrow := hk.row (samplePhase_lt w.pos)
    have hi : sampleIndex w.pos < frames := by
      unfold sampleIndex
      exact Nat.div_lt_of_lt_mul (by rwa [Nat.mul_comm])
    unfold Config.impulseTaps at *
    unfold Sound.emit
    simp only [e, Option.isSome_some, Bool.true_and]
    split
    · refine ⟨⟨p1, ?_, ?_, p4⟩, ?_, ?_⟩
      · exact (addTaps_length _ _ _ _).trans p2
      · exact (addTaps_length _ _ _ _).trans p3
      · show w.accL + (addTaps _ _ _ _).sum = _
        rw [addTaps_sum _ _ _ _ (by rw [hrow.1, p2]; omega), hrow.2]
        unfold Config.impulseUnit at *
        simp only
        omega
      · show w.accR + (addTaps _ _ _ _).sum = _
        rw [addTaps_sum _ _ _ _ (by rw [hrow.1, p3]; omega), hrow.2]
        unfold Config.impulseUnit at *
        simp only
        omega
    · next hne =>
      have : w.mixL h = w.lastL ∧ w.mixR h = w.lastR := by simpa using hne
      exact ⟨⟨p1, p2, p3, p4⟩, by simp only [this.1]; exact q1, by simp only [this.2]; exact q2⟩
  generalize w.emit h (w.mixL h) (w.mixR h) = x at *
  obtain ⟨⟨p1, p2, p3, p4⟩, q1, q2⟩ := emit
  have hmul : Config.clk ≤ frames * Config.clk := Nat.le_mul_of_pos_left _ hfr
  unfold Sound.advancePosition
  simp only [e]
  split
  · refine ⟨⟨?_, ?_, ?_, rfl⟩, ?_, ?_⟩
    · show x.pos + rate - frames * Config.clk < _
      omega
    · show (shiftTail frames x.impL).length = _
      unfold shiftTail
      simp [p2]
      omega
    · show (shiftTail frames x.impR).length = _
      unfold shiftTail
      simp [p3]
      omega
    · show (integrate x.accL (x.impL.take frames)).2 + (shiftTail frames x.impL).sum = Config.impulseUnit * x.lastL
      rw [integrate_acc, ← q1]
      unfold shiftTail
      have := List.sum_take_add_sum_drop x.impL frames
      simp
      omega
    · show (integrate x.accR (x.impR.take frames)).2 + (shiftTail frames x.impR).sum = Config.impulseUnit * x.lastR
      rw [integrate_acc, ← q2]
      unfold shiftTail
      have := List.sum_take_add_sum_drop x.impR frames
      simp
      omega
  · next hlt =>
    refine ⟨⟨?_, p2, p3, p4⟩, q1, q2⟩
    show x.pos + rate < _
    have hlt : (x.pos + rate) / Config.clk < frames := Nat.lt_of_not_le hlt
    exact (Nat.div_lt_iff_lt_mul (by unfold Config.clk; omega)).mp hlt

end Sys2Proof.Machine
end

