-- ==== Sys2Proof/Tests/Slice0.lean ====
section
/-! SUPPORT. Tests: the spec's own words and vectors (30_encoding.md, 95_test_vectors.md; each test names
its source), and for each statement with hypotheses a witness that meets them. -/

namespace Sys2Proof.Tests

open Sys2Proof Sys2Proof.Machine

/-- The reset state with the bytes at 0xC000, PC there, the registers set by `r` and the cells of `m` filled. -/
def at' (bytes : List Byte) (r : Cpu → Cpu) (m : List (Word × Byte)) : State :=
  let s := State.pokeAll State.reset 0xC000#16 bytes
  let t := m.foldl (fun s c => s.poke c.1 c.2) s
  { t with cpu := r { t.cpu with pc := 0xC000#16 } }

/-- The state of a next outcome. -/
def after : Out → State
  | .next t => t
  | _ => State.reset

/-- Whether an outcome is a next state. -/
def isNext : Out → Bool
  | .next _ => true
  | _ => false

theorem next_after {o : Out} (h : isNext o = true) : o = .next (after o) := by
  cases o with
  | next t => rfl
  | fault r => exact absurd h Bool.false_ne_true
  | refused r => exact absurd h Bool.false_ne_true

/-- One call of the CPU's `step()` on the bytes at 0xC000. -/
def run (bytes : List Byte) (r : Cpu → Cpu) (m : List (Word × Byte) := []) : State :=
  after (at' bytes r m).cpuStep

/-- A, F, the cycles and PC after the bytes at 0xC000. -/
def afpc (bytes : List Byte) (r : Cpu → Cpu) (m : List (Word × Byte) := []) : Byte × Byte × Nat × Word :=
  let t := run bytes r m
  (t.cpu.a, t.cpu.f, t.cycles, t.cpu.pc)

/-! ### WellFormed -/

/-- The one ill-formed term, the bare prefix, is refused (45_cpu_control.md R336); the decoder never gives it. -/
theorem test_wellFormed_refuses_prefix :
    (Instr.cb_prefix 0x37#8).wellFormed = false ∧ Instr.swap_a.wellFormed = true ∧
    decode [0xCB#8, 0x37#8] = .ok (.swap_a, []) := by decide

/-! ### Decoding: words written from 30_encoding.md -/

/-- R112, R124: LD r,r' is 01 ddd sss. -/
theorem test_decode_ld_reg : decode [0b01001000#8] = .ok (.ld_c_b, []) ∧ decode [0b01111110#8] = .ok (.ld_a_mhl, []) ∧
    decode [0b01110101#8] = .ok (.ld_mhl_l, []) ∧ decode [0b00111110#8, 0x7F#8] = .ok (.ld_a_d8 0x7F#8, []) := by decide

/-- R113, R114: pairs; 16-bit operands low byte first. -/
theorem test_decode_pairs : decode [0b00100001#8, 0x34#8, 0x12#8] = .ok (.ld_hl_d16 0x1234#16, []) ∧
    decode [0b00110001#8, 0xFE#8, 0xDF#8] = .ok (.ld_sp_d16 0xDFFE#16, []) ∧
    decode [0b11110101#8] = .ok (.push_af, []) ∧ decode [0b11000001#8] = .ok (.pop_bc, []) ∧
    decode [0x08#8, 0x00#8, 0xC1#8] = .ok (.ld_ma16_sp 0xC100#16, []) := by decide

/-- R119: the ALU block 10 ooo sss and its immediates. -/
theorem test_decode_alu : decode [0b10000000#8] = .ok (.add_a_b, []) ∧ decode [0b10001011#8] = .ok (.adc_a_e, []) ∧
    decode [0b10011100#8] = .ok (.sbc_a_h, []) ∧ decode [0b10111110#8] = .ok (.cp_mhl, []) ∧
    decode [0b11101110#8, 0x0F#8] = .ok (.xor_d8 0x0F#8, []) ∧ decode [0b00101101#8] = .ok (.dec_l, []) := by decide

/-- 42_alu16.md: ADD HL,rr and the signed forms. -/
theorem test_decode_alu16 : decode [0b00001001#8] = .ok (.add_hl_bc, []) ∧ decode [0b00010011#8] = .ok (.inc_de, []) ∧
    decode [0b11101000#8, 0x02#8] = .ok (.add_sp_e8 0x02#8, []) := by decide

/-- R120, R127: the CB map. -/
theorem test_decode_cb : decode [0xCB#8, 0b00110111#8] = .ok (.swap_a, []) ∧ decode [0xCB#8, 0b00011110#8] = .ok (.rr_mhl, []) ∧
    decode [0xCB#8, 0b01111100#8] = .ok (.bit_7_h, []) ∧ decode [0xCB#8, 0b10000111#8] = .ok (.res_0_a, []) ∧
    decode [0xCB#8, 0b11111110#8] = .ok (.set_7_mhl, []) := by decide

/-- R118, 44_control.md: control transfer. -/
theorem test_decode_control : decode [0b11000011#8, 0x00#8, 0x04#8] = .ok (.jp_a16 0x0400#16, []) ∧
    decode [0b11001010#8, 0x00#8, 0x04#8] = .ok (.jp_z_a16 0x0400#16, []) ∧
    decode [0b00100000#8, 0xFA#8] = .ok (.jr_nz_e8 0xFA#8, []) ∧ decode [0b11011100#8, 0x34#8, 0x12#8] = .ok (.call_c_a16 0x1234#16, []) ∧
    decode [0b11101111#8] = .ok (.rst_28, []) ∧ decode [0b11011001#8] = .ok (.reti, []) := by decide

/-- 45_cpu_control.md: CPU control. STOP takes no second byte. -/
theorem test_decode_cpu : decode [0x76#8] = .ok (.halt, []) ∧ decode [0x10#8, 0x00#8] = .ok (.stop, [0x00#8]) ∧
    decode [0xF3#8] = .ok (.di, []) ∧ decode [0xFB#8] = .ok (.ei, []) ∧ decode [0xD3#8] = .ok (.illegal_d3, []) := by decide

/-! ### Loads (40_loads.md examples, V-LD) -/

/-- R150, R151, R152. -/
theorem test_ld_reg : (run [0x48#8] fun c => { c with b := 0x12#8 }).cpu.c = 0x12#8 ∧
    afpc [0x3E#8, 0x7F#8] id = (0x7F#8, 0#8, 8, 0xC002#16) ∧
    (run [0x7E#8] (fun c => { c with h := 0xC0#8, l := 0x50#8 }) [(0xC050#16, 0x5A#8)]).cpu.a = 0x5A#8 := by decide

/-- R153, R154, V-LD-11. -/
theorem test_ld_to_hl :
    (run [0x70#8] fun c => { c with h := 0xC0#8, l := 0x10#8, b := 0x33#8 }).peek 0xC010#16 = 0x33#8 ∧
    (run [0x36#8, 0x99#8] fun c => { c with h := 0xC1#8 }).peek 0xC100#16 = 0x99#8 := by decide

/-- V-LD-12, V-LD-13 (two banks: the clamp selects bank 1), R157. -/
theorem test_ld_pair_address : (run [0x0A#8] (fun c => { c with b := 0x01#8 }) [(0x0100#16, 0xC3#8)]).cpu.a = 0xC3#8 ∧
    (run [0x12#8] fun c => { c with d := 0x20#8, a := 3#8 }).bus.romBank = 1 ∧
    (run [0x02#8] fun c => { c with b := 0xC0#8, c := 0x01#8, a := 0x44#8 }).peek 0xC001#16 = 0x44#8 := by decide

/-- R161, R162 (V-LD-9), R164 (V-LD-10). -/
theorem test_ldh : (run [0xF0#8, 0x80#8] id [(0xFF80#16, 0x10#8)]).cpu.a = 0x10#8 ∧
    (run [0xE0#8, 0x00#8] fun c => { c with a := 0x55#8 }).host.events = [.diag (.unimplementedWrite 0xFF00#16 0x55#8)] ∧
    (run [0xE0#8, 0xFF#8] fun c => { c with a := 4#8 }).bus.ie = 4#8 ∧
    (run [0xE2#8] fun c => { c with c := 0x12#8, a := 0xF0#8 }).snd.ch1.voice.volInit = 15 := by decide

/-- R165 (V-LD-2), R167's step down (40_loads.md example). -/
theorem test_ld_hl_step : (let t := run [0x22#8] fun c => { c with h := 0xFF#8, l := 0xFF#8, a := 5#8 };
      t.bus.ie = 5#8 ∧ t.hl = 0#16 ∧ t.cycles = 8) ∧
    (let t := run [0x3A#8] (fun c => { c with h := 0xC1#8, l := 0x01#8 }) [(0xC101#16, 0xAB#8)];
      t.cpu.a = 0xAB#8 ∧ t.hl = 0xC100#16) := by decide

/-- R170: the 40_loads.md example and V-LD-5. -/
theorem test_ld_nn_sp : (let t := run [0x08#8, 0x00#8, 0xC1#8] fun c => { c with sp := 0xFFF8#16 };
      t.peek 0xC100#16 = 0xF8#8 ∧ t.peek 0xC101#16 = 0xFF#8 ∧ t.cycles = 20) ∧
    (let t := run [0x08#8, 0xFF#8, 0xFF#8] fun c => { c with sp := 0x1234#16 };
      t.bus.ie = 0x34#8 ∧ t.bus.rom = []) := by decide

/-- R173: V-LD-3, V-LD-6, V-LD-7. -/
theorem test_push : (let t := run [0xF5#8] fun c => { c with sp := 0xDFFE#16, a := 0x12#8, f := 0xB0#8 };
      t.peek 0xDFFD#16 = 0x12#8 ∧ t.peek 0xDFFC#16 = 0xB0#8 ∧ t.cpu.sp = 0xDFFC#16 ∧ t.cycles = 16) ∧
    (let t := run [0xC5#8] fun c => { c with b := 0xAB#8, c := 0xCD#8 };
      t.bus.ie = 0xAB#8 ∧ t.peek 0xFFFE#16 = 0xCD#8 ∧ t.cpu.sp = 0xFFFE#16) := by decide

/-- R172: V-LD-1, V-LD-4. -/
theorem test_pop : (let t := run [0xC1#8] (fun c => { c with sp := 0xFFFF#16 }) [(0xFFFF#16, 0x34#8), (0#16, 0x12#8)];
      t.bc = 0x1234#16 ∧ t.cpu.sp = 1#16 ∧ t.cycles = 12) ∧
    (let t := run [0xF1#8] (fun c => { c with sp := 0xDFFC#16 }) [(0xDFFC#16, 0xFF#8), (0xDFFD#16, 0x12#8)];
      t.cpu.a = 0x12#8 ∧ t.cpu.f = 0xF0#8 ∧ t.cpu.sp = 0xDFFE#16) := by decide

/-! ### 8-bit arithmetic (V-ALU, V-DAA) -/

/-- V-ALU-1 to V-ALU-4. -/
theorem test_add : afpc [0x80#8] (fun c => { c with a := 0x3A#8, b := 0xC6#8 }) = (0x00#8, 0xB0#8, 4, 0xC001#16) ∧
    afpc [0xC6#8, 0x10#8] (fun c => { c with a := 0xF0#8 }) = (0x00#8, 0x90#8, 8, 0xC002#16) ∧
    afpc [0x87#8] (fun c => { c with a := 0x80#8 }) = (0x00#8, 0x90#8, 4, 0xC001#16) := by decide

/-- V-ALU-5 to V-ALU-11: ADC, with the corner of R201. -/
theorem test_adc : afpc [0x8B#8] (fun c => { c with a := 0xE1#8, e := 0x0E#8, f := 0x10#8 }) = (0xF0#8, 0x20#8, 4, 0xC001#16) ∧
    afpc [0x8B#8] (fun c => { c with a := 0xE1#8, e := 0x0F#8, f := 0x10#8 }) = (0xF1#8, 0x00#8, 4, 0xC001#16) ∧
    afpc [0xCE#8, 0xFF#8] (fun c => { c with a := 0x00#8, f := 0x10#8 }) = (0x00#8, 0x80#8, 8, 0xC002#16) ∧
    afpc [0x8F#8] (fun c => { c with a := 0x10#8, f := 0x10#8 }) = (0x21#8, 0x00#8, 4, 0xC001#16) := by decide

/-- V-ALU-12 to V-ALU-14. -/
theorem test_sub : afpc [0x93#8] (fun c => { c with a := 0x3E#8, e := 0x3E#8 }) = (0x00#8, 0xC0#8, 4, 0xC001#16) ∧
    afpc [0x90#8] (fun c => { c with a := 0x80#8, b := 0x01#8 }) = (0x7F#8, 0x60#8, 4, 0xC001#16) ∧
    afpc [0xD6#8, 0x01#8] id = (0xFF#8, 0x70#8, 8, 0xC002#16) := by decide

/-- V-ALU-15 to V-ALU-21: SBC, with the corner of R201. -/
theorem test_sbc : afpc [0x9C#8] (fun c => { c with a := 0x3B#8, h := 0x2A#8, f := 0x10#8 }) = (0x10#8, 0x40#8, 4, 0xC001#16) ∧
    afpc [0x9F#8] (fun c => { c with a := 0x10#8, f := 0x10#8 }) = (0xFF#8, 0x70#8, 4, 0xC001#16) ∧
    afpc [0x9F#8] (fun c => { c with a := 0xFF#8, f := 0x10#8 }) = (0xFF#8, 0x40#8, 4, 0xC001#16) ∧
    afpc [0xDE#8, 0x0F#8] (fun c => { c with a := 0x30#8, f := 0x10#8 }) = (0x20#8, 0x40#8, 8, 0xC002#16) := by decide

/-- V-ALU-22 to V-ALU-25. -/
theorem test_cp : afpc [0xFE#8, 0x40#8] (fun c => { c with a := 0x3C#8 }) = (0x3C#8, 0x50#8, 8, 0xC002#16) ∧
    afpc [0xFE#8, 0x80#8] (fun c => { c with a := 0x80#8 }) = (0x80#8, 0xC0#8, 8, 0xC002#16) := by decide

/-- V-ALU-26 to V-ALU-30. -/
theorem test_logic : afpc [0xA5#8] (fun c => { c with a := 0x5A#8, l := 0x3F#8 }) = (0x1A#8, 0x20#8, 4, 0xC001#16) ∧
    afpc [0xE6#8, 0x00#8] (fun c => { c with a := 0xFF#8, f := 0x10#8 }) = (0x00#8, 0xA0#8, 8, 0xC002#16) ∧
    afpc [0xEE#8, 0x0F#8] (fun c => { c with a := 0xFF#8 }) = (0xF0#8, 0x00#8, 8, 0xC002#16) ∧
    afpc [0xF6#8, 0x03#8] (fun c => { c with a := 0x5A#8 }) = (0x5B#8, 0x00#8, 8, 0xC002#16) := by decide

/-- V-ALU-31 to V-ALU-34. -/
theorem test_inc_dec : (let t := run [0x04#8] fun c => { c with b := 0xFF#8 }; t.cpu.b = 0#8 ∧ t.cpu.f = 0xA0#8) ∧
    (let t := run [0x2D#8] fun c => { c with l := 1#8, f := 0x10#8 }; t.cpu.l = 0#8 ∧ t.cpu.f = 0xD0#8) ∧
    afpc [0x3D#8] (fun c => { c with a := 0x10#8, f := 0x10#8 }) = (0x0F#8, 0x70#8, 4, 0xC001#16) := by decide

/-- V-ALU-35, V-ALU-36. -/
theorem test_inc_dec_mem : (let t := run [0x34#8] (fun c => { c with h := 0xC1#8 }) [(0xC100#16, 0x0F#8)];
      t.peek 0xC100#16 = 0x10#8 ∧ t.cpu.f = 0x20#8 ∧ t.cycles = 12) ∧
    (let t := run [0x35#8] fun c => { c with h := 0xFF#8, l := 0x80#8 };
      t.peek 0xFF80#16 = 0xFF#8 ∧ t.cpu.f = 0x60#8) := by decide

/-- V-ALU-37 to V-ALU-39. -/
theorem test_cpl_scf_ccf : afpc [0x2F#8] (fun c => { c with a := 0x35#8 }) = (0xCA#8, 0x60#8, 4, 0xC001#16) ∧
    afpc [0x37#8] (fun c => { c with f := 0xE0#8 }) = (0x00#8, 0x90#8, 4, 0xC001#16) ∧
    afpc [0x3F#8] (fun c => { c with f := 0x90#8 }) = (0x00#8, 0x80#8, 4, 0xC001#16) := by decide

/-- V-DAA-1, V-DAA-3, V-DAA-5, V-DAA-6, in the `adjust_only` mode. -/
theorem test_daa : afpc [0x27#8] (fun c => { c with a := 0x3C#8 }) = (0x42#8, 0x00#8, 4, 0xC001#16) ∧
    afpc [0x27#8] (fun c => { c with f := 0x30#8 }) = (0x66#8, 0x30#8, 4, 0xC001#16) ∧
    afpc [0x27#8] (fun c => { c with a := 0x0F#8, f := 0x60#8 }) = (0x09#8, 0x60#8, 4, 0xC001#16) ∧
    afpc [0x27#8] (fun c => { c with a := 0xFA#8 }) = (0x60#8, 0x00#8, 4, 0xC001#16) := by decide

/-- One DAA in an instance of another `DAA_MODE` (00_scope.md R9). -/
def daaIn (mode : DaaMode) (r : Cpu → Cpu) : Out := (configure mode Config.impulseTable (at' [0x27#8] r [])).cpuStep

/-- V-DAA-2, V-DAA-3, V-DAA-5 in the `hardware` mode. -/
theorem test_daa_hardware :
    (let t := after (daaIn .hardware fun c => { c with a := 0x9A#8 }); t.cpu.a = 0#8 ∧ t.cpu.f = 0x90#8) ∧
    (let t := after (daaIn .hardware fun c => { c with f := 0x30#8 }); t.cpu.a = 0x66#8 ∧ t.cpu.f = 0x10#8) ∧
    (let t := after (daaIn .hardware fun c => { c with a := 0x0F#8, f := 0x60#8 });
      t.cpu.a = 0x09#8 ∧ t.cpu.f = 0x40#8) := by decide

/-- Why an outcome has no meaning. -/
def refusalOf {α : Type} : Host.Outcome α Fault Refusal → Option Refusal
  | .refused r => some r
  | _ => none

/-- R224: in the `refuse` mode DAA has no meaning, in a step and in a platform step. -/
theorem test_daa_refuse : refusalOf (daaIn .refuse id) = some .daaRefused ∧
    (let s := setSampleRate 32768 (setOutputBuffer 64 (State.reset.poke 0#16 0x27#8));
      refusalOf (platformStep 1 (configure .refuse Config.impulseTable s)) = some .daaRefused) := by decide +kernel

/-! ### 16-bit arithmetic (V-A16) -/

/-- V-A16-1, V-A16-2, V-A16-4. -/
theorem test_add_hl : (let t := run [0x09#8] fun c => { c with h := 0x8A#8, l := 0x23#8, b := 6#8, c := 5#8 };
      t.hl = 0x9028#16 ∧ t.cpu.f = 0x20#8 ∧ t.cycles = 8) ∧
    (let t := run [0x29#8] fun c => { c with h := 0x8A#8, l := 0x23#8 }; t.hl = 0x1446#16 ∧ t.cpu.f = 0x30#8) ∧
    (let t := run [0x19#8] fun c => { c with h := 0x0F#8, l := 0xFF#8, e := 1#8, f := 0x80#8 };
      t.hl = 0x1000#16 ∧ t.cpu.f = 0xA0#8) := by decide

/-- V-A16-5, V-A16-6. -/
theorem test_inc_dec_pair : (run [0x13#8] fun c => { c with d := 0x23#8, e := 0x5F#8 }).de = 0x2360#16 ∧
    (let t := run [0x0B#8] id; t.bc = 0xFFFF#16 ∧ t.cpu.f = 0#8) := by decide

/-- V-A16-8, V-A16-9, V-A16-11. -/
theorem test_add_sp : (let t := run [0xE8#8, 0x02#8] fun c => { c with sp := 0xFFF8#16 };
      t.cpu.sp = 0xFFFA#16 ∧ t.cpu.f = 0#8 ∧ t.cycles = 16) ∧
    (let t := run [0xE8#8, 0xFF#8] fun c => { c with sp := 0xDFF0#16 }; t.cpu.sp = 0xDFEF#16 ∧ t.cpu.f = 0x10#8) ∧
    (let t := run [0xE8#8, 0x01#8] fun c => { c with sp := 0x000F#16 }; t.cpu.sp = 0x0010#16 ∧ t.cpu.f = 0x20#8) := by decide

/-- V-A16-12, V-A16-13. -/
theorem test_ld_hl_sp : (let t := run [0xF8#8, 0x01#8] fun c => { c with sp := 0x00FF#16 };
      t.hl = 0x0100#16 ∧ t.cpu.sp = 0x00FF#16 ∧ t.cpu.f = 0x30#8 ∧ t.cycles = 12) ∧
    (let t := run [0xF8#8, 0x80#8] fun c => { c with sp := 0xDFF0#16 }; t.hl = 0xDF70#16 ∧ t.cpu.f = 0x10#8) := by decide

/-! ### Rotates, shifts and bits (V-RSB) -/

/-- V-RSB-1, V-RSB-3, V-RSB-4, V-RSB-5, V-RSB-7. -/
theorem test_rotate_a : afpc [0x07#8] (fun c => { c with a := 0x85#8 }) = (0x0B#8, 0x10#8, 4, 0xC001#16) ∧
    afpc [0x07#8] id = (0x00#8, 0x00#8, 4, 0xC001#16) ∧
    afpc [0x0F#8] (fun c => { c with a := 0x3B#8 }) = (0x9D#8, 0x10#8, 4, 0xC001#16) ∧
    afpc [0x17#8] (fun c => { c with a := 0x95#8, f := 0x10#8 }) = (0x2B#8, 0x10#8, 4, 0xC001#16) ∧
    afpc [0x1F#8] (fun c => { c with a := 0x81#8 }) = (0x40#8, 0x10#8, 4, 0xC001#16) := by decide

/-- V-RSB-8, V-RSB-10, V-RSB-11, V-RSB-12. -/
theorem test_cb_rotate : (let t := run [0xCB#8, 0x00#8] fun c => { c with b := 0x85#8 }; t.cpu.b = 0x0B#8 ∧ t.cpu.f = 0x10#8) ∧
    (let t := run [0xCB#8, 0x09#8] fun c => { c with c := 1#8 }; t.cpu.c = 0x80#8 ∧ t.cpu.f = 0x10#8) ∧
    (let t := run [0xCB#8, 0x15#8] fun c => { c with l := 0x80#8 }; t.cpu.l = 0#8 ∧ t.cpu.f = 0x90#8) ∧
    afpc [0xCB#8, 0x1F#8] (fun c => { c with a := 1#8 }) = (0x00#8, 0x90#8, 8, 0xC002#16) := by decide

/-- V-RSB-13. -/
theorem test_rr_mem : (let t := run [0xCB#8, 0x1E#8] (fun c => { c with h := 0xC1#8 }) [(0xC100#16, 0x8A#8)];
    t.peek 0xC100#16 = 0x45#8 ∧ t.cpu.f = 0#8 ∧ t.cycles = 16) := by decide

/-- V-RSB-14, V-RSB-16, V-RSB-18, V-RSB-19, V-RSB-22. -/
theorem test_cb_shift : (let t := run [0xCB#8, 0x22#8] fun c => { c with d := 0x80#8 }; t.cpu.d = 0#8 ∧ t.cpu.f = 0x90#8) ∧
    afpc [0xCB#8, 0x2F#8] (fun c => { c with a := 0x8A#8 }) = (0xC5#8, 0x00#8, 8, 0xC002#16) ∧
    (let t := run [0xCB#8, 0x28#8] fun c => { c with b := 1#8 }; t.cpu.b = 0#8 ∧ t.cpu.f = 0x90#8) ∧
    afpc [0xCB#8, 0x37#8] (fun c => { c with a := 0xF0#8, f := 0x10#8 }) = (0x0F#8, 0x00#8, 8, 0xC002#16) ∧
    afpc [0xCB#8, 0x3F#8] (fun c => { c with a := 0xFF#8 }) = (0x7F#8, 0x10#8, 8, 0xC002#16) := by decide

/-- V-RSB-23, V-RSB-24, V-RSB-25. -/
theorem test_bit : (run [0xCB#8, 0x7C#8] fun c => { c with h := 0x80#8, f := 0x10#8 }).cpu.f = 0x30#8 ∧
    (run [0xCB#8, 0x65#8] fun c => { c with l := 0xEF#8 }).cpu.f = 0xA0#8 ∧
    (let t := run [0xCB#8, 0x46#8] (fun c => { c with h := 0xC1#8 }) [(0xC100#16, 1#8)];
      t.cpu.f = 0x20#8 ∧ t.peek 0xC100#16 = 1#8 ∧ t.cycles = 12) := by decide

/-- V-RSB-26, V-RSB-28, V-RSB-30. -/
theorem test_res_set : afpc [0xCB#8, 0xBF#8] (fun c => { c with a := 0xFF#8 }) = (0x7F#8, 0x00#8, 8, 0xC002#16) ∧
    afpc [0xCB#8, 0xC7#8] (fun c => { c with a := 0x80#8 }) = (0x81#8, 0x00#8, 8, 0xC002#16) ∧
    (let s := (at' [0xCB#8, 0xFE#8] (fun c => { c with h := 0xFF#8, l := 0x14#8 }) [(0xFF14#16, 7#8)]).memWrite 0xFF12#16 0xF0#8;
     let t := after s.cpuStep;
     t.snd.ch1.freq = 0x700#11 ∧ t.snd.ch1.voice.divTc = 256 ∧ t.snd.ch1.voice.running = true ∧
       t.snd.ch1.voice.volume = 15 ∧ t.cycles = 16) := by decide

/-! ### Control transfer (V-CTL) -/

/-- V-CTL-1, V-CTL-2, V-CTL-3. -/
theorem test_jp : (let t := run [] (fun c => { c with pc := 0x0150#16 }) [(0x0150#16, 0xC3#8), (0x0152#16, 4#8)];
      t.cpu.pc = 0x0400#16 ∧ t.cycles = 16) ∧
    (run [0xCA#8, 0x00#8, 0x04#8] fun c => { c with f := 0x80#8 }).cpu.pc = 0x0400#16 ∧
    afpc [0xCA#8, 0x00#8, 0x04#8] id = (0x00#8, 0x00#8, 12, 0xC003#16) ∧
    afpc [0xE9#8] (fun c => { c with h := 0x40#8 }) = (0x00#8, 0x00#8, 4, 0x4000#16) := by decide

/-- V-CTL-7 (at 0xC000), V-CTL-8, V-CTL-11, V-CTL-12. -/
theorem test_jr : afpc [0x18#8, 0xFE#8] id = (0x00#8, 0x00#8, 12, 0xC000#16) ∧
    (run [] (fun c => { c with pc := 0xFFFE#16 }) [(0xFFFE#16, 0x18#8)]).cpu.pc = 0x0000#16 ∧
    afpc [0x30#8, 0x80#8] id = (0x00#8, 0x00#8, 12, 0xBF82#16) ∧
    afpc [0x38#8, 0x7F#8] id = (0x00#8, 0x00#8, 8, 0xC002#16) := by decide

/-- V-CTL-13, V-CTL-14, V-CTL-15. -/
theorem test_call :
    (let t := run [] (fun c => { c with pc := 0x0150#16, sp := 0xDFFF#16 })
        [(0x0150#16, 0xCD#8), (0x0151#16, 0x34#8), (0x0152#16, 0x12#8)];
      t.peek 0xDFFE#16 = 0x01#8 ∧ t.peek 0xDFFD#16 = 0x53#8 ∧ t.cpu.sp = 0xDFFD#16 ∧ t.cpu.pc = 0x1234#16 ∧ t.cycles = 24) ∧
    (let t := run [0xCD#8, 0x00#8, 0x40#8] fun c => { c with sp := 1#16 };
      t.bus.ie = 0x03#8 ∧ t.bus.rom = [] ∧ t.cpu.sp = 0xFFFF#16 ∧ t.cpu.pc = 0x4000#16) ∧
    (let t := run [0xDC#8, 0x34#8, 0x12#8] fun c => { c with sp := 0xDFFF#16 };
      t.cpu.pc = 0xC003#16 ∧ t.cpu.sp = 0xDFFF#16 ∧ t.cycles = 12) := by decide

/-- The stack of 44_control.md R308's example. -/
def stack308 : List (Word × Byte) := [(0xDFFD#16, 0x53#8), (0xDFFE#16, 0x01#8)]

/-- V-CTL-16, V-CTL-17, V-CTL-18, V-CTL-20. -/
theorem test_ret :
    (let t := run [0xC9#8] (fun c => { c with sp := 0xDFFD#16 }) stack308;
      t.cpu.pc = 0x0153#16 ∧ t.cpu.sp = 0xDFFF#16 ∧ t.cycles = 16) ∧
    (let t := run [0xC0#8] (fun c => { c with sp := 0xDFFD#16 }) stack308; t.cpu.pc = 0x0153#16 ∧ t.cycles = 20) ∧
    (let t := run [0xC0#8] (fun c => { c with sp := 0xDFFD#16, f := 0x80#8 }) stack308;
      t.cpu.pc = 0xC001#16 ∧ t.cpu.sp = 0xDFFD#16 ∧ t.cycles = 8) ∧
    (let t := run [0xD9#8] (fun c => { c with sp := 0xDFFD#16 }) stack308;
      t.cpu.pc = 0x0153#16 ∧ t.cpu.sp = 0xDFFF#16 ∧ t.cpu.ime = true) := by decide

/-- V-CTL-22. -/
theorem test_rst : (let t := run [0xFF#8] fun c => { c with sp := 0xDFFE#16 };
    t.peek 0xDFFD#16 = 0xC0#8 ∧ t.peek 0xDFFC#16 = 0x01#8 ∧ t.cpu.pc = 0x0038#16 ∧ t.cycles = 16) := by decide

/-! ### CPU control (V-CPU) -/

/-- V-CPU-1 (at 0xC000), V-CPU-6, V-CPU-10. -/
theorem test_nop_ei_di : afpc [0x00#8] id = (0x00#8, 0x00#8, 4, 0xC001#16) ∧ (run [0xFB#8] id).cpu.ime = true ∧
    (run [0xF3#8] fun c => { c with ime := true }).cpu.ime = false ∧
    afpc [0xCB#8, 0x37#8] (fun c => { c with a := 0x01#8 }) = (0x10#8, 0x00#8, 8, 0xC002#16) := by decide

/-- V-CPU-2, V-CPU-3, V-CPU-4. -/
theorem test_halt : (let t := run [0x76#8] fun c => { c with ime := true };
      t.cpu.halted = true ∧ t.cpu.pc = 0xC001#16 ∧ t.cycles = 4) ∧
    (let t := run [] fun c => { c with halted := true, ime := true }; t.cpu.pc = 0xC000#16 ∧ t.cycles = 4) ∧
    (let t := run [] fun c => { c with halted := true }; t.cpu.stopReason = some .haltLockup ∧ t.cycles = 0) := by decide

/-- Why a step refused to go on. -/
def stopOf : Out → Option StopReason
  | .fault (.stopped r) => some r
  | _ => none

/-- V-CPU-5, V-CPU-8. -/
theorem test_fatal : (let t := run [0x10#8, 0x00#8] id;
      t.cpu.stopReason = some .stopInstruction ∧ t.cpu.pc = 0xC001#16 ∧ t.cycles = 0) ∧
    (let t := run [0xED#8] id; t.cpu.stopReason = some (.illegalOpcode 0xED#8 0xC000#16) ∧ t.cpu.pc = 0xC001#16 ∧
      stopOf (step t) = some (.illegalOpcode 0xED#8 0xC000#16)) := by decide

/-! ### Interrupts and countdowns (V-INT) -/

/-- Writes through the bus. -/
def writes (l : List (Word × Byte)) (s : State) : State := l.foldl (fun s c => s.memWrite c.1 c.2) s

/-- The start of V-INT-1. -/
def bothDue : State :=
  let s := writes [(0xFF07#16, 0x05#8), (0xFFFF#16, 0x05#8)] (at' [0x00#8] (fun c => { c with sp := 0xDFFE#16, ime := true }) [])
  { s with timers := { s.timers with vblankCtr := 4, timerCtr := 4 } }

/-- V-INT-1. -/
theorem test_both_expire : (let t := after (step bothDue);
    t.timers = ⟨70224, 4096, 4096⟩ ∧ t.cpu.pc = 0x40#16 ∧ t.cpu.sp = 0xDFFC#16 ∧ t.cpu.ime = false ∧
    t.peek 0xDFFD#16 = 0xC0#8 ∧ t.peek 0xDFFC#16 = 0x01#8 ∧ t.sessionCycles = 4) := by decide

/-- V-INT-3's sixth iteration: RETI, and the timer is delivered again at once. -/
theorem test_reti_redelivers :
    (let s := writes [(0xFF06#16, 0xFF#8), (0xFF07#16, 0x05#8), (0xFFFF#16, 0x04#8)]
        (at' [] (fun c => { c with pc := 0x49#16, sp := 0xDFFC#16 })
          [(0x49#16, 0xD9#8), (0xDFFC#16, 0x01#8), (0xDFFD#16, 0xC0#8)]);
     let t := after (step { s with timers := { s.timers with timerCtr := 12 } });
     t.timers.timerCtr = 12 ∧ t.cpu.pc = 0x48#16 ∧ t.cpu.sp = 0xDFFC#16 ∧ t.cpu.ime = false ∧ t.cycles = 16) := by decide +kernel

/-- V-INT-4, V-INT-5, V-INT-6. -/
theorem test_timer_program : (writes [(0xFF06#16, 0xFF#8), (0xFF07#16, 0x05#8)] State.reset).timers = ⟨70224, 16, 16⟩ ∧
    (writes [(0xFF07#16, 0x04#8)] State.reset).timers.timerPeriod = 262144 ∧
    (writes [(0xFF07#16, 0x04#8), (0xFF07#16, 0x00#8)] State.reset).timers = ⟨70224, 0, 0⟩ := by decide

/-- V-INT-10. -/
theorem test_delivery_into_rom : (let t := (at' [] (fun c => { c with sp := 0x4000#16 }) []).deliverInterrupt 0x40#16;
    t.cpu.sp = 0x3FFE#16 ∧ t.cpu.pc = 0x40#16 ∧ t.bus.rom = []) := by decide

/-! ### The bus (V-BUS) -/

/-- V-BUS-1 to V-BUS-3, V-BUS-4 (but 0xFF05, log 21). -/
theorem test_unmapped_reads : [0x8000#16, 0x9FFF#16, 0xE000#16, 0xFDFF#16, 0xFE00#16, 0xFF00#16, 0xFF4D#16, 0xFF7F#16].map State.reset.peek =
      List.replicate 8 0xFF#8 ∧
    (State.reset.afterRead 0xFF4D#16).host.events = [.diag (.unimplementedRead 0xFF4D#16)] := by decide +kernel

/-- V-BUS-6 to V-BUS-11, with four banks and then with one. -/
theorem test_bank_select :
    (let s := { State.reset with bus := Bus.reset [] 4 };
      s.bus.romBank = 1 ∧ (writes [(0x2000#16, 0#8)] s).bus.romBank = 1 ∧ (writes [(0x2000#16, 3#8)] s).bus.romBank = 3 ∧
      (writes [(0x2000#16, 4#8)] s).bus.romBank = 3 ∧ (writes [(0x3FFF#16, 7#8), (0x3FFF#16, 0xFF#8)] s).bus.romBank = 3 ∧
      (writes [(0x3FFF#16, 7#8), (0x3FFF#16, 0xFF#8)] s).host.events = [.diag .bankClamp]) ∧
    (let s := { State.reset with bus := Bus.reset [] 1 };
      s.bus.romBank = 0 ∧ (writes [(0x2000#16, 1#8)] s).bus.romBank = 0) := by decide

/-- V-BUS-12. -/
theorem test_fetch_wraps : (let t := run [] (fun c => { c with pc := 0xFFFF#16 }) [(0xFFFF#16, 0x3E#8), (0#16, 0x42#8)];
    t.cpu.a = 0x42#8 ∧ t.cpu.pc = 1#16) := by decide

/-! ### The sound unit (V-SND, V-LFSR) -/

/-- The sound unit after writes to the I/O page by low address byte. -/
def snd (l : List (Nat × Byte)) : Sound := l.foldl (fun s c => s.write c.1 c.2) State.reset.snd

/-- V-SND-1, V-SND-8, V-SND-18. -/
theorem test_trigger : (let p := (snd [(0x12, 0xF3#8), (0x14, 0x80#8)]).ch1;
      p.voice.running = true ∧ p.voice.volume = 15 ∧ p.env.ctr = 12 ∧ p.voice.len = 64) ∧
    (snd [(0x1E, 0x80#8)]).ch3.voice.len = 256 ∧
    (let s := snd [(0x12, 0xF0#8), (0x14, 0x80#8), (0x17, 0xF0#8), (0x19, 0x80#8), (0x26, 0x00#8)];
      s.ch1.voice.running = false ∧ s.ch2.voice.running = false) := by decide

/-- V-SND-3, V-SND-6, V-SND-7: the tick that ends each count. -/
theorem test_length_and_envelope :
    (let s := snd [(0x12, 0xF3#8), (0x14, 0x80#8)];
     let p := (Sound.tick { s with ch1 := { s.ch1 with env := { s.ch1.env with ctr := 1 } } } 0).ch1;
      p.voice.volume = 14 ∧ p.env.ctr = 12) ∧
    (let v := ((snd [(0x12, 0xF0#8), (0x11, 0x3F#8), (0x14, 0xC0#8)]).tick 0).ch1.voice;
      v.len = 0 ∧ v.running = false ∧ v.volume = 0) ∧
    (let v := ((snd [(0x11, 0x3F#8), (0x14, 0x80#8)]).tick 0).ch1.voice; v.len = 1 ∧ v.running = true) := by decide

/-- V-SND-10 and V-SND-11: a lowering step, and a raising one with and without headroom. -/
theorem test_sweep :
    (let s := snd [(0x10, 0x11#8), (0x13, 0x00#8), (0x14, 0x84#8)];
      s.ch1.voice.divTc = 1024 ∧ s.sweep.ctr = 2 ∧ (s.tick 0).ch1.voice.divTc = 1024 ∧
      ((s.tick 0).tick 0).ch1.voice.divTc = 512) ∧
    (let s := snd [(0x10, 0x19#8), (0x13, 0x00#8), (0x14, 0x84#8)];
      ((s.tick 0).tick 0).ch1.voice.divTc = 1536 ∧ ((((s.tick 0).tick 0).tick 0).tick 0).ch1.voice.divTc = 1536) := by decide

/-- V-SND-13. -/
theorem test_noise_period : ([0x00#8, 0x01#8, 0x21#8, 0x17#8, 0xF7#8, 0x08#8].map fun v => (snd [(0x22, v)]).ch4.voice.divTc) =
    [8, 16, 64, 224, 3670016, 8] ∧ (snd [(0x22, 0x08#8)]).ch4.narrow = true := by decide

/-- V-SND-15, V-SND-16, V-SND-17. -/
theorem test_wave :
    (let s := snd [(0x30, 0x1F#8), (0x31, 0x80#8), (0x1A, 0x80#8), (0x1C, 0x20#8), (0x1D, 0xFF#8), (0x1E, 0x87#8)];
     let next := fun s : Sound => s.divide.divide;
      s.ch3.voice.divTc = 1 ∧ s.ch3.voice.divCtr = 2 ∧ s.ch3.output s.regs = 1 ∧ (next s).ch3.output s.regs = 15 ∧
      (next (next s)).ch3.output s.regs = 8 ∧ (next (next (next s))).ch3.output s.regs = 0 ∧
      ([0x40#8, 0x60#8, 0x00#8].map fun v => ((next s).write 0x1C v).ch3.output s.regs) = [7, 3, 0] ∧
      ((next s).write 0x1A 0#8).ch3.output s.regs = 0 ∧ ((next s).write 0x1A 0#8).ch3.voice.running = true) := by decide

/-- V-SND-19 and the level of V-SND-20. -/
theorem test_mix :
    (let s := snd [(0x12, 0xF0#8), (0x14, 0x80#8), (0x16, 0x00#8), (0x17, 0xF0#8), (0x19, 0x80#8), (0x25, 0x12#8)];
     let t := ({ s with ch2 := { s.ch2 with dutyPos := 5 } }.cycle HostSide.reset).1;
      t.ch1.voice.level = 15 ∧ t.ch2.voice.level = -15 ∧ t.ch3.voice.level = 0 ∧ t.ch4.voice.level = 0 ∧
      t.lastL = 7680 ∧ t.lastR = -7680) ∧ scaled (-15) 64536 = -7562 := by decide

/-- V-LFSR: the states after calls 1 to 8, the bits of the first 12 calls, and the check rows of R499. -/
theorem test_lfsr :
    ((List.range 8).map fun n => lfsrRun false (n + 1)) =
      [0x0001#15, 0x0003#15, 0x0007#15, 0x000F#15, 0x001F#15, 0x003F#15, 0x007F#15, 0x00FF#15] ∧
    ((List.range 8).map fun n => lfsrRun true (n + 1)) =
      [0x0101#15, 0x0303#15, 0x0707#15, 0x0F0F#15, 0x1F1F#15, 0x3F3F#15, 0x7E7E#15, 0x7DFD#15] ∧
    lfsrBits false 12 = 0xFFF ∧ lfsrBits true 12 = 0xFC0 := by decide

/-- 95_test_vectors.md's check values of the kernel. -/
theorem test_kernel : impulseRow Config.impulseTable 0 = [0, 0, 0, 0, 0, 256, 0, 0, 0, 0, 0, 0] ∧
    impulseRow Config.impulseTable 64 = [0, 1, -5, 16, -42, 158, 158, -42, 16, -5, 1, 0] ∧
    impulseRow Config.impulseTable 127 = [0, 0, 0, 0, -1, 2, 256, -2, 1, 0, 0, 0] := by decide

/-! ### Witnesses: for each statement with hypotheses, a state and operands that meet them -/

/-- `LoadsFromMemory`: one instruction of each case, from RAM, high RAM and the sound registers. -/
theorem witness_LoadsFromMemory (s : State) :
    (Instr.ld_a_mbc, Reg8.a, s.bc, 8, [0x0A#8]) ∈
      [(Instr.ld_a_mbc, Reg8.a, s.bc, 8, [0x0A#8]), (.ld_a_mde, .a, s.de, 8, [0x1A#8]),
       (.ld_a_mc, .a, 0xFF00#16 + s.cpu.c.setWidth 16, 8, [0xF2#8])] ∧
    Instr.ld_b_mhl = .ldFromHlOf .b ∧
    (run [0xFA#8, 0x00#8, 0xC2#8] id [(0xC200#16, 0x77#8)]).cpu.a = 0x77#8 ∧
    (run [0xF0#8, 0x12#8] id [(0xFF12#16, 0xF0#8)]).cpu.a = 0xF0#8 ∧
    (run [0xF2#8] (fun c => { c with c := 0x81#8 }) [(0xFF81#16, 0x22#8)]).cpu.a = 0x22#8 :=
  ⟨by simp, rfl, by decide, by decide, by decide⟩

/-- `StoresToMemory`, `SixteenBitLoads`: stored addresses at the ends of their ranges. -/
theorem witness_StoresToMemory : Instr.ld_mhl_b = .ldToHlOf .b ∧
    ([0xA000#16, 0xDFFF#16, 0xFF80#16, 0xFFFE#16, 0xFF06#16, 0xFF07#16, 0xFF10#16, 0xFF3F#16, 0xFFFF#16].all fun a => decide (IsStored a)) = true ∧
    ([0x9FFF#16, 0xE000#16, 0xFF05#16, 0xFF40#16].all fun a => decide (¬ IsStored a)) = true ∧
    (run [0xEA#8, 0xFF#8, 0xDF#8] fun c => { c with a := 1#8 }).peek 0xDFFF#16 = 1#8 := by decide

/-- `PushAndPop`: each pair is one of the list. -/
theorem witness_PushAndPop : (Pair.hl, StackPair.hl) ∈ [(Pair.bc, StackPair.bc), (.de, .de), (.hl, .hl)] := by decide

/-- `FlagMethodAgainstTrueCarry`: carry-in 0 and 1, with the corner in which the flags differ from the true ones. -/
theorem witness_FlagMethod : (0#8).toNat ≤ 1 ∧ (1#8).toNat ≤ 1 ∧
    carryAdd 0x10#8 (0x10#8 + 0xFF#8 + 1#8) = false ∧ carryAdd 0xF0#8 (0xF0#8 + 0x10#8 + 0#8) = true ∧
    carrySub 0xFF#8 (0xFF#8 - 0xFF#8 - 1#8) = false ∧ carrySub 0x00#8 (0x00#8 - 0x01#8 - 0#8) = true ∧ carrySub 0x10#8 (0x10#8 - 0xFF#8 - 1#8) = false := by decide

/-- `RotatesAndShifts`. -/
theorem witness_RotatesAndShifts : (Instr.rra, RotOp.rr, 0x1F#8) ∈
    [(Instr.rlca, RotOp.rlc, 0x07#8), (.rrca, .rrc, 0x0F#8), (.rla, .rl, 0x17#8), (.rra, .rr, 0x1F#8)] := by decide

/-- `BitOperations`, its RES and SET clause. -/
theorem witness_BitOperations (b : Fin 8) :
    (Instr.setOf b, true) ∈ [(Instr.resOf b, false), (Instr.setOf b, true)] := by simp

/-- `Jumps`, `CallsAndRestarts`, `Returns`: each condition holds in one state and not in another. -/
theorem witness_conditions :
    (let s := at' [] id [];
      condHolds .nz s = true ∧ condHolds .nc s = true ∧ condHolds .z s = false ∧ condHolds .c s = false) ∧
    (let s := at' [] (fun c => { c with f := 0x90#8 }) [];
      condHolds .nz s = false ∧ condHolds .nc s = false ∧ condHolds .z s = true ∧ condHolds .c s = true) := by decide

/-- `HaltAndHaltedSteps`. -/
theorem witness_HaltAndHaltedSteps :
    (let s := at' [] (fun c => { c with halted := true }) [];
      s.cpu.stopReason = none ∧ s.cpu.halted = true ∧ s.cpu.ime = false) ∧
    (let s := at' [] (fun c => { c with halted := true, ime := true }) [];
      s.cpu.stopReason = none ∧ s.cpu.halted = true ∧ s.cpu.ime = true ∧ (after (step s)).sessionCycles = 4 ∧
      (after (step s)).timers.vblankCtr = 70220) := by decide

/-- `StopAndIllegalAreFatal`, `EveryInstructionCompletes`: a fatal instruction and one that is not. -/
theorem witness_EveryInstructionCompletes :
    (0xFD#8, Instr.illegal_fd) ∈ illegalRows ∧ ¬ (Instr.nop = .stop ∨ ∃ r ∈ illegalRows, Instr.nop = r.2) ∧
    ¬ (Instr.daa = .daa ∧ State.reset.host.daaMode = .refuse) := by decide

/-- `DecimalAdjust`, `EveryInstructionCompletes`, `StepRunsDecoded`: an instance of each `DAA_MODE`, and the
refusal of the last. -/
theorem witness_daaMode : State.reset.host.daaMode = .adjustOnly ∧
    (configure .hardware [] State.reset).host.daaMode = .hardware ∧
    (let s := configure .refuse Config.impulseTable (at' [0x27#8] id []);
      s.host.daaMode = .refuse ∧ s.cpu.stopReason = none ∧ s.cpu.halted = false ∧
      decode s.fetchInstr.1 = .ok (.daa, []) ∧ refusalOf (exec .daa s.fetchInstr.2) = some .daaRefused) := by decide

/-- `DecodeEncodeAgree`. -/
theorem witness_DecodeEncodeAgree : (Instr.ld_hl_d16 0x1234#16).wellFormed = true ∧
    decode [0x21#8, 0x34#8, 0x12#8, 0x99#8] = .ok (.ld_hl_d16 0x1234#16, [0x99#8]) := by decide

/-- `FetchReadsInstruction`: three bytes at PC, none of them a draw. -/
theorem witness_FetchReadsInstruction : (let s := at' [0x21#8, 0x34#8, 0x12#8] id [];
    (∀ k, k < 3 → ¬ IsCounter (s.cpu.pc + BitVec.ofNat 16 k)) ∧ s.fetchInstr.1 = [0x21#8, 0x34#8, 0x12#8]) := by decide

/-- `StepRunsDecoded`: an instruction that goes on, and one that is fatal. -/
theorem witness_StepRunsDecoded :
    (let s := at' [0x3E#8, 0x7F#8] id [];
      s.cpu.stopReason = none ∧ s.cpu.halted = false ∧ decode s.fetchInstr.1 = .ok (.ld_a_d8 0x7F#8, []) ∧
      isNext (exec (.ld_a_d8 0x7F#8) s.fetchInstr.2) = true ∧
      (after (exec (.ld_a_d8 0x7F#8) s.fetchInstr.2)).cpu.stopReason = none) ∧
    (let s := at' [0x10#8] id [];
      s.cpu.stopReason = none ∧ s.cpu.halted = false ∧ decode s.fetchInstr.1 = .ok (.stop, []) ∧
      isNext (exec .stop s.fetchInstr.2) = true ∧
      (after (exec .stop s.fetchInstr.2)).cpu.stopReason.isSome = true) := by decide

/-- `FatalIsPreciseAndFinal`: a step that ends fatally, and a stopped state. -/
theorem witness_FatalIsPreciseAndFinal :
    (let s := at' [0xD3#8] id [];
      s.cpu.stopReason = none ∧ isNext (step s) = true ∧
      (after (step s)).cpu.stopReason = some (.illegalOpcode 0xD3#8 0xC000#16)) := by decide

/-- `ReadMap`, `WriteMap`, `WriteThenRead`: every class of addresses at the ends of its range. -/
theorem witness_address_classes :
    ([0x2000#16, 0x3FFF#16].all fun a => decide (IsBankSelect a)) = true ∧ ¬ IsBankSelect 0x1FFF#16 ∧
    ([0x4000#16, 0x7FFF#16].all fun a => decide (IsBankWindow a)) = true ∧ ¬ IsBankWindow 0x8000#16 ∧
    ([0xA000#16, 0xDFFF#16, 0xFF80#16, 0xFFFE#16].all fun a => decide (IsRam a)) = true ∧ ¬ IsRam 0xE000#16 ∧
    ([0xFF00#16, 0xFF03#16, 0xFF08#16, 0xFF0F#16, 0xFF40#16, 0xFF7F#16].all fun a => decide (IsUnimplemented a)) = true ∧
    ([0xFF04#16, 0xFF05#16].all fun a => decide (IsCounter a)) = true ∧ ([0xFF06#16, 0xFF07#16].all fun a => decide (IsTimerReg a)) = true ∧
    ([0xFF10#16, 0xFF3F#16].all fun a => decide (IsSoundReg a)) = true := by
  decide

/-- `ReadMap` and `WriteMap` at the first and the last address of each class: what a write leaves there. -/
theorem witness_read_write :
    [0x0000#16, 0x1FFF#16, 0x4000#16, 0x7FFF#16, 0x8000#16, 0x9FFF#16, 0xE000#16, 0xFEFF#16, 0xA000#16, 0xDFFF#16,
      0xFF06#16, 0xFF07#16, 0xFF10#16, 0xFF3F#16, 0xFF40#16, 0xFF80#16, 0xFFFE#16, 0xFFFF#16].map
      (fun a => (State.reset.memWrite a 0x5A#8).peek a) =
    [0x00#8, 0x00#8, 0x00#8, 0x00#8, 0xFF#8, 0xFF#8, 0xFF#8, 0xFF#8, 0x5A#8, 0x5A#8,
      0x5A#8, 0x5A#8, 0x5A#8, 0x5A#8, 0xFF#8, 0x5A#8, 0x5A#8, 0x5A#8] := by decide +kernel

/-- `BankSelect`: a value in range, 0, and a clamp. -/
theorem witness_BankSelect : IsBankSelect 0x2000#16 ∧ IsBankSelect 0x3FFF#16 ∧
    (State.reset.memWrite 0x3FFF#16 0x02#8).bus.romBank = 1 ∧
    (State.reset.memWrite 0x3FFF#16 0x02#8).host.events = [.diag .bankClamp] ∧
    ((State.reset.memWrite 0x3FFF#16 0x02#8).memWrite 0x2000#16 0xFF#8).host.events = [.diag .bankClamp] ∧
    (State.reset.memWrite 0x2000#16 0x01#8).host.bankClampWarned = false ∧
    (State.reset.memWrite 0x2000#16 0x00#8).host.events = [] := by decide

/-- `DeliverThenReti`: a stack in work RAM, and a stack at the ends of high RAM. -/
theorem witness_DeliverThenReti : IsRam (0xDFFE#16 - 1#16) ∧ IsRam (0xDFFE#16 - 2#16) ∧
    IsRam (0xFFFF#16 - 1#16) ∧ IsRam (0xFFFF#16 - 2#16) ∧ IsRam (0xFF82#16 - 2#16) := by decide

/-- `Countdowns`: the two clauses of each check at their boundary, `c` one below and at the countdown. -/
theorem witness_Countdowns :
    (0 < bothDue.timers.vblankCtr - (3 : Nat) ∧ bothDue.timers.vblankCtr - (4 : Nat) ≤ 0) ∧
    State.reset.timers.timerPeriod = 0 ∧ 0 < bothDue.timers.timerPeriod ∧
    (0 < bothDue.timers.timerCtr - (3 : Nat) ∧ bothDue.timers.timerCtr - (4 : Nat) ≤ 0) ∧
    (bothDue.vblankCheck 3).1.timers.vblankCtr = 1 ∧ (bothDue.vblankCheck 4).1.timers.vblankCtr = 70224 ∧
    (bothDue.timerCheck 3).1.timers.timerCtr = 1 ∧ (bothDue.timerCheck 4).1.cpu.pc = 0x48#16 := by decide

/-- `BothExpireVblankWins`. -/
theorem witness_BothExpireVblankWins :
    bothDue.cpu.ime = true ∧ bothDue.bus.ie.getLsbD 0 = true ∧ bothDue.timers.vblankCtr ≤ (4 : Nat) ∧
    IsRam (bothDue.cpu.sp - 1#16) ∧ IsRam (bothDue.cpu.sp - 2#16) ∧
    0 < bothDue.timers.timerPeriod ∧ bothDue.timers.timerCtr ≤ (4 : Nat) := by decide

/-- `InitResetsEverything`: an image `init` takes and sizes it does not. -/
theorem witness_InitResetsEverything (rom : List Byte) (h : rom.length = 16384) :
    (0 < 16384 ∧ 16384 % 16384 = 0 ∧ rom.length = 16384) ∧
    ¬ (0 < 0 ∧ 0 % 16384 = 0 ∧ rom.length = 0) ∧ ¬ (0 < 16385 ∧ 16385 % 16384 = 0 ∧ rom.length = 16385) ∧
    (List.replicate 16384 0#8).length = 16384 :=
  ⟨⟨by omega, rfl, h⟩, by omega, by omega, List.length_replicate⟩

/-- `PulseRegisterWrites`, `WaveNoiseRegisterWrites`: a byte without and one with the trigger bit, at the
boundary. -/
theorem witness_register_writes : (0x7F#8).toNat < 128 ∧ 128 ≤ (0x80#8).toNat ∧
    ((snd []).ch1.writeControl 0x7F#8).voice.running = false ∧ ((snd []).ch1.writeControl 0x80#8).voice.running = true ∧
    ((snd [(0x23, 0x7F#8)]).ch4.voice.running = false ∧ (snd [(0x23, 0x80#8)]).ch4.voice.running = true) ∧
    ((snd [(0x14, 0x80#8)]).write 0x26 0x80#8).ch1.voice.running = true ∧
    ((snd [(0x14, 0x80#8)]).write 0x26 0x7F#8).ch1.voice.running = false := by decide

/-- `TickRules`: the length clauses, the envelope clauses and the sweep clauses. -/
theorem witness_TickRules :
    (let v := (snd [(0x11, 0x3F#8), (0x14, 0xC0#8)]).ch1.voice; v.lenEnable = true ∧ v.len = 1) ∧
    (let v := (snd [(0x11, 0x3E#8), (0x14, 0xC0#8)]).ch1.voice; v.lenEnable = true ∧ 1 < v.len) ∧
    State.reset.snd.ch1.voice.lenEnable = false ∧ State.reset.snd.ch1.env.period = 0 ∧
    (let e := (snd [(0x12, 0xF1#8), (0x14, 0x80#8)]).ch1.env; 0 < e.period ∧ 1 < e.ctr) ∧
    (let e := (snd [(0x12, 0xF1#8)]).ch1.env; 0 < e.period ∧ e.ctr ≤ 1) ∧ State.reset.snd.sweep.period = 0 ∧
    (let w := (snd [(0x10, 0x11#8), (0x14, 0x80#8)]).sweep; 0 < w.period ∧ 1 < w.ctr) ∧
    (let w := (snd [(0x10, 0x11#8)]).sweep; 0 < w.period ∧ w.ctr ≤ 1) := by decide

/-- `DividerRules`: the counts at 1 and above, channel by channel. -/
theorem witness_DividerRules :
    (let s := State.reset.snd;
      1 < s.ch1.voice.divCtr ∧ 1 < s.ch2.voice.divCtr ∧ 1 < s.ch3.voice.divCtr ∧ 1 < s.ch4.voice.divCtr) ∧
    (let s := (snd [(0x1D, 0xFF#8), (0x1E, 0x87#8)]).divide; s.ch3.voice.divCtr = 1 ∧ 1 ≤ s.ch4.voice.divCtr) := by decide

/-- `LfsrStep`, `LfsrPeriods`: the ends of the ranges of the bit number and of the step count. -/
theorem witness_Lfsr : (lfsrNext true 0#15).getLsbD 8 = true ∧ (lfsrNext true 0#15).getLsbD 1 = false ∧
    (lfsrNext true 0#15).getLsbD 14 = false ∧ lfsrRun false 1 ≠ 0#15 ∧ lfsrRun true 2 ≠ lfsrRun true 1 := by decide

/-- A sound unit and a host with a configured resampler of 64 frames at 32768 Hz. -/
def playing : State := setSampleRate 32768 (setOutputBuffer 64 State.reset)

/-- `SoundCycleOrder`, `InjectAddsKernelRow`, `FlushIntegrates`, `StepConservesLevel`: the resampler is
configured, its buffers fit and the level is conserved, before a step and after it. -/
theorem witness_resampler : playing.host.resampler = some (32768, 64) ∧ BuffersFit 64 playing.snd ∧
    LevelConserved playing.snd ∧ 1 ≤ playing.snd.seqCtr ∧ isNext (step playing) = true ∧
    playing.snd.impL.length = 64 + 12 ∧ playing.snd.impR.length = 64 + 12 := by decide +kernel

/-- `InjectAddsKernelRow`, `StepConservesLevel`: the spec's table and another one have the required property. -/
theorem witness_kernel : KernelOk State.reset.host.impulseTable ∧
    KernelOk (List.replicate 128 [256, 0, 0, 0, 0, 0, 0, 0, 0, 0, 0, 0]) := by decide +kernel

/-- `FlushIntegrates`: a level of 7 and one of -3, conserved, none of it in the carried entries. -/
theorem witness_FlushIntegrates :
    (let s := { playing.snd with
        impL := 256 * 7 :: List.replicate 75 0, lastL := 7, impR := 256 * -3 :: List.replicate 75 0, lastR := -3 };
      s.impL.length = 64 + 12 ∧ s.impR.length = 64 + 12 ∧ LevelConserved s ∧
      (s.impL.drop 64).sum = 0 ∧ (s.impR.drop 64).sum = 0 ∧
      (s.filled 64).getD 126 0 = 7 ∧ (s.filled 64).getD 127 0 = -3 ∧ (s.flush 64).accL = 256 * 7) := by decide +kernel

/-- `AdvanceRunsCycles`: three cycles of which the second fills the buffer for a registered callback. -/
theorem witness_AdvanceRunsCycles :
    (let s := { playing with
        snd := { playing.snd with pos := 64 * 4194304 - 2 * 32768 }, host := { playing.host with callback := true } };
      (s.runFor 1).host.events = [] ∧ (s.runFor 3).host.events = [.pcm (List.replicate 128 0)] ∧
      (s.runFor 3).sessionCycles = 3 ∧ (s.runFor 3).snd.seqCtr = 16381) := by decide +kernel

/-- `SoundCycleOrder`: the tick is due, and a cycle that fills the buffer. -/
theorem witness_tick_due : (let s := { playing.snd with seqCtr := 1 }; (s.cycle playing.host).1.seqCtr = 16384) ∧
    (let s := { playing.snd with pos := 64 * 4194304 - 1 }; (s.cycle playing.host).2 = some (List.replicate 128 0)) := by
  decide +kernel

/-- `StepKeepsCoreInvariant`, `StepKeepsSoundInvariant`, `MixFitsSixteenBits`, `HostOperationsKeepInvariants`:
the invariants at reset, from which a step goes on. -/
theorem witness_invariants : CoreInv State.reset ∧ SoundInv State.reset.snd ∧ isNext (step State.reset) = true :=
  ⟨⟨by decide, by decide, by decide, by decide, by decide, by decide, by decide, by decide, by decide⟩,
   ⟨by decide, by decide, by decide, by decide, by decide, by decide, by decide, by decide, by decide, by decide,
    by decide⟩, by decide⟩

/-- `HostOperationsKeepInvariants`: `init` answers a next state for an image of its size. -/
theorem witness_hostInit (rom : List Byte) (h : rom.length = 16384) : ∃ t, hostInit rom 16384 State.reset = .next t :=
  ⟨_, if_pos (by simp [romSizeOk, h, Config.bankSize])⟩

/-- `CpuBlindToHostAndSound`: two states that differ in the host's parameters and in the channels. -/
theorem witness_CpuBlind :
    (let s := State.reset; let t := { playing with snd := { playing.snd with masterVolume := 0 } };
      t.cpu = s.cpu ∧ t.bus = s.bus ∧ t.timers = s.timers ∧ t.snd.regs = s.snd.regs ∧
      t.sessionCycles = s.sessionCycles ∧ t.draws = s.draws ∧ t.host.daaMode = s.host.daaMode ∧ isNext (step s) = true ∧
      t.host.sampleRate ≠ s.host.sampleRate) := by decide

/-- What a platform step answers. -/
def resultOf : PlatformOut → Option Int
  | .next r => some r.result
  | _ => none

/-- A CPU that waits in HALT for an interrupt that IE masks. -/
def Idle (s : State) : Prop :=
  s.cpu.stopReason = none ∧ s.cpu.halted = true ∧ s.cpu.ime = true ∧ s.bus.ie = 0#8

/-- It waits on through a step (60_exceptions.md R352, R364). -/
theorem Idle.step {s : State} (h : Idle s) : ∃ t, Machine.step s = .next t ∧ Idle t := by
  have fire : ∀ (s : State) b v, Idle s → Idle (s.fire b v).1 := by
    intro s b v h
    rw [State.fire_eq, if_neg (by simp [State.delivers, h.2.2.2])]
    exact h
  refine ⟨(s.charge 4).afterCpuStep 4, ?_, ?_⟩
  · obtain ⟨h1, h2, h3, -⟩ := h
    simp [Machine.step, State.iterate, State.cpuStep, State.done, State.finishIteration, Config.haltStepCycles, h1, h2, h3]
  · rw [State.afterCpuStep_eq]
    have vb : Idle (((s.charge 4).runFor 4).vblankCheck 4).1 := by
      unfold State.vblankCheck
      simp only
      split
      · exact fire _ _ _ h
      · exact h
    unfold State.timerCheck
    simp only
    split
    · split
      · exact fire _ _ _ vb
      · exact vb
    · exact vb

/-- `PlatformStepMeetsTarget`: a platform step of any length that completes. -/
theorem witness_PlatformStep_completes (ms : Nat) :
    let s := { playing with cpu := { playing.cpu with halted := true, ime := true } }
    ∃ r, platformStep ms s = .next r ∧ r.result ≠ -1 := by
  have loop : ∀ start target fuel (s : State), Idle s →
      ∃ r, platformLoop start target fuel s = .next r ∧ r.result ≠ -1 := by
    intro start target fuel
    induction fuel with
    | zero => exact fun s _ => ⟨_, rfl, by simp⟩
    | succ n ih =>
      intro s h
      obtain ⟨t, e, ht⟩ := h.step
      unfold platformLoop
      split
      · exact ⟨_, rfl, by simp⟩
      · simp only [e, ht.1, Option.isSome_none, Bool.false_eq_true, if_false]
        exact ih t ht
  exact loop _ _ _ _ ⟨rfl, rfl, rfl, rfl⟩

/-- `PlatformStepMeetsTarget`: no resampler; a resampler and `ms = 0` (V-INT-7); a stopped CPU (V-INT-9); a STOP
on the way. -/
theorem witness_PlatformStep : State.reset.host.resampler = none ∧ playing.host.resampler = some (32768, 64) ∧
    resultOf (platformStep 0 playing) = some 0 ∧
    resultOf (platformStep 5 { playing with cpu := { playing.cpu with stopReason := some .haltLockup } }) = some (-1) ∧
    resultOf (platformStep 1 (playing.poke 0#16 0x10#8)) = some (-1) := by
  decide +kernel

/-- The step runs the word placed by `withFetchWord` (log 15), a CB row numbered as the table numbers it. -/
theorem witness_withFetchWord : (after (step (State.reset.withFetchWord 8 0x3C))).cpu.a = 1#8 ∧
    (after (step (State.reset.withFetchWord 16 0xCBC7))).cpu.a = 1#8 ∧
    decodeTableWord 16 0xCBC7 = some .set_0_a ∧ decodeTableWord 24 0x1234C3 = some (.jp_a16 0x1234#16) := by decide

end Sys2Proof.Tests
end

section
/-! PROOFS. The core invariant and the host's inputs under a step, what a fetch reads, and the invariants at
reset. -/

namespace Sys2Proof.Machine

open Sys2Proof

/-! ### The core invariant under the rest of an iteration -/

/-- An advance of the sound unit keeps the core invariant: of what it speaks of, only the byte store is in the unit. -/
theorem CoreInv.runFor {s : State} (i : CoreInv s) (c : Nat) : CoreInv (s.runFor c) :=
  { i with
    regsCanonical := by rw [runFor_regs]; exact i.regsCanonical
    regsRange := by rw [runFor_regs]; exact i.regsRange }

/-- The vblank check puts the countdown back into its range (60_exceptions.md R370), if the step was no longer than
the period. -/
theorem CoreInv.vblankCheck {s : State} (i : CoreInv s) {c : Nat} (hc : c ≤ Config.vblankPeriod) :
    CoreInv (s.vblankCheck c).1 := by
  obtain ⟨v, m, hv⟩ := vblankCheck_cases s c
  have range : 0 < v ∧ v ≤ Config.vblankPeriod := by
    have old := i.vblankRange
    unfold Config.vblankPeriod at *
    split at hv <;> omega
  exact m.coreInv { i with vblankRange := range }

theorem CoreInv.timerCheck {s : State} (i : CoreInv s) (c : Nat) : CoreInv (s.timerCheck c).1 := by
  obtain ⟨v, m⟩ := timerCheck_cases s c
  exact m.coreInv { i with }

theorem CoreInv.afterCpuStep {s : State} (i : CoreInv s) {c : Nat} (hc : c ≤ Config.vblankPeriod) :
    CoreInv (s.afterCpuStep c) := by
  rw [State.afterCpuStep_eq]
  exact ((i.runFor c).vblankCheck hc).timerCheck c

/-- A step keeps the core invariant. -/
theorem CoreInv.step {s t : State} (i : CoreInv s) (h : Machine.step s = .next t) : CoreInv t := by
  obtain ⟨-, ⟨u, n, m, hn, rfl⟩ | ⟨u, r, m, -, rfl⟩⟩ := step_cases h
  · have hc : n ≤ Config.vblankPeriod := hn.2.1.trans (by decide)
    exact ((m.trans (.charge n rfl)).coreInv i).afterCpuStep hc
  · exact { m.coreInv i with }

/-! ### The ROM image and the host's inputs -/

/-- The ROM image, the bank count and the host's inputs (00_scope.md R9) are as they were. -/
def InputsSame (s t : State) : Prop :=
  t.bus.rom = s.bus.rom ∧ t.bus.bankCount = s.bus.bankCount ∧
  t.host = { s.host with events := t.host.events, bankClampWarned := t.host.bankClampWarned }

theorem InputsSame.trans {s t u : State} (h : InputsSame s t) (h' : InputsSame t u) : InputsSame s u := by
  obtain ⟨rom, banks, host⟩ := h
  obtain ⟨rom', banks', host'⟩ := h'
  exact ⟨rom'.trans rom, banks'.trans banks, host'.trans (by rw [host])⟩

theorem Micro.inputsSame {s t : State} (m : Micro s t) : InputsSame s t := by
  obtain ⟨rom, banks⟩ := m.rom
  obtain ⟨e, w, host⟩ := m.host
  exact ⟨rom, banks, by rw [host]⟩

/-- A step never changes the ROM image, the bank count or a host's input. -/
theorem step_inputsSame {s t : State} (h : step s = .next t) : InputsSame s t := by
  obtain ⟨-, ⟨u, n, m, -, rfl⟩ | ⟨u, r, m, -, rfl⟩⟩ := step_cases h
  · exact afterCpuStep_keeps (P := InputsSame s) (fun _ k => k.trans ⟨rfl, rfl, rfl⟩)
      (fun _ _ m k => k.trans m.inputsSame) (fun _ _ k => k) (fun _ _ k => k) m.inputsSame
  · exact m.inputsSame

/-- Settles O55, by what a step can do: `Micro` parts, then the advance and the two checks, or a fatal outcome. -/
theorem stepKeepsCoreInvariant : Obligations.StepKeepsCoreInvariant :=
  ⟨fun _ _ i h => i.step h, fun _ _ h => step_inputsSame h⟩

/-! ### What a fetch reads -/

/-- What decodes is the encoding of a whole instruction, followed by what the decoder left over. -/
theorem encode_of_decode {i : Instr} {bytes rest : List Byte} (h : decode bytes = .ok (i, rest)) :
    i.wellFormed = true ∧ bytes = encode i ++ rest := by
  cases bytes with
  | nil => cases h
  | cons op tail =>
    by_cases hop : op = 0xCB#8
    · subst hop
      cases tail with
      | nil => cases h
      | cons op2 tail =>
        obtain ⟨j, hj, hw, he⟩ := encode_decodeCb op2
        simp only [decode, if_true, hj] at h
        cases h
        exact ⟨hw, by rw [he]; rfl⟩
    · simp only [decode, if_neg hop] at h
      rcases instrLength_range op with e | e | e
      · obtain ⟨hw, he⟩ := encode_decodePrimary 0#8 0#8 op hop
        simp only [e] at h he
        cases h
        exact ⟨hw, by rw [he]; rfl⟩
      · cases tail with
        | nil => simp [e] at h
        | cons n tail =>
          obtain ⟨hw, he⟩ := encode_decodePrimary n 0#8 op hop
          simp only [e] at h he
          cases h
          exact ⟨hw, by rw [he]; rfl⟩
      · rcases tail with _ | ⟨lo, _ | ⟨hi, tail⟩⟩
        · simp [e] at h
        · simp [e] at h
        · obtain ⟨hw, he⟩ := encode_decodePrimary lo hi op hop
          simp only [e] at h he
          cases h
          exact ⟨hw, by rw [he]; rfl⟩

theorem memorySame_afterFetch (n : Nat) (s : State) : MemorySame s (afterFetch n s) := by
  obtain ⟨-, bus, -, snd, -⟩ := afterFetch_same n s
  exact fun b hb => peek_congr_off_counters bus (by rw [snd]) hb

/-- Where no address is a free draw, a fetch reads the bytes that stood at the successive addresses before it. -/
theorem fetchedBytes_eq_map_peek (n : Nat) (s : State)
    (h : ∀ k, k < n → ¬ IsCounter (s.cpu.pc + BitVec.ofNat 16 k)) :
    fetchedBytes n s = (List.range n).map (fun k => s.peek (s.cpu.pc + BitVec.ofNat 16 k)) := by
  induction n generalizing s with
  | zero => rfl
  | succ n ih =>
    have shift : ∀ k, s.cpu.pc + 1#16 + BitVec.ofNat 16 k = s.cpu.pc + BitVec.ofNat 16 (k + 1) := by
      intro k
      bv_omega
    have off : ∀ k, k < n → ¬ IsCounter (s.cpu.pc + 1#16 + BitVec.ofNat 16 k) := by
      intro k hk
      rw [shift]
      exact h (k + 1) (Nat.succ_lt_succ hk)
    have tail : fetchedBytes n ((s.afterRead s.cpu.pc).setPc (s.cpu.pc + 1#16)) =
        (List.range n).map (fun k => s.peek (s.cpu.pc + BitVec.ofNat 16 (k + 1))) := by
      rw [ih _ off]
      refine List.map_congr_left fun k hk => ?_
      rw [← shift k]
      exact memorySame_afterFetch 1 s _ (off k (List.mem_range.mp hk))
    rw [fetchedBytes, tail, List.range_succ_eq_map, List.map_cons, List.map_map]
    simp [Function.comp_def]

/-- Settles O28: the fetch byte by byte, its frame, and the decoder's answer on the bytes. -/
theorem fetchReadsInstruction : Obligations.FetchReadsInstruction := by
  refine ⟨fun s => ?_, fun s => ?_⟩
  · obtain ⟨cpu, bus, timers, snd, session⟩ := afterFetch_same (instrLength (s.peek s.cpu.pc)) s
    exact ⟨fetchInstr_eq s, cpu, bus, timers, snd, session, memorySame_afterFetch _ s,
      fetchedBytes_eq_map_peek _ s⟩
  · obtain ⟨i, hw, hd⟩ := fetchInstr_decodes s
    exact ⟨i, hw, hd, by simpa using (encode_of_decode hd).2⟩

/-! ### Reset -/

/-- The memories are empty, the flags and the timer registers zero, and the bank is 1 of 2. -/
theorem coreInv_reset : CoreInv State.reset where
  flagsLow := rfl
  romCanonical := by decide
  memCanonical := by decide
  regsCanonical := by decide
  memRange := by decide
  regsRange := by decide
  bankInRange := by decide
  timerProgrammed := rfl
  vblankRange := by decide

/-- Nothing was integrated, nothing waits, and the last mixed level is zero. -/
theorem levelConserved_reset : LevelConserved (Sound.reset none) := ⟨rfl, rfl⟩

/-- The printed table of 61_sound.md R499 has the required property, row by row. -/
theorem kernelOk_impulseTable : KernelOk Config.impulseTable := by decide +kernel

/-- Settles O54, invariant by invariant. -/
theorem resetMeetsInvariants : Obligations.ResetMeetsInvariants :=
  ⟨coreInv_reset, soundInv_reset none, levelConserved_reset, kernelOk_impulseTable⟩

end Sys2Proof.Machine
end

section
/-! PROOFS. The bus: what each address reads as, what a write to it changes, and reading after a write. -/

namespace Sys2Proof.Machine

open Sys2Proof

/-! ### Reading after a write -/

/-- A write to an address that stores no byte changes at most the bank, the events and the warn-once mark. -/
theorem memWrite_of_not_stored (s : State) {a : Word} (v : Byte) (h : ¬ IsStored a) :
    s.memWrite a v = s ∨ (IsBankSelect a ∧ s.memWrite a v = s.selectBank v) ∨
    s.memWrite a v = s.note (.diag (.unimplementedWrite a v)) := by
  rcases memWrite_cases s a v with ⟨e, -⟩ | ⟨ram, -⟩ | sel | ⟨ie, -⟩ | ⟨tma, -⟩ | ⟨tac, -⟩ | ⟨snd, -⟩ | ⟨-, e⟩
  · exact .inl e
  · exact absurd (.inl ram) h
  · exact .inr (.inl sel)
  · exact absurd (.inr (.inr (.inr ie))) h
  · exact absurd (.inr (.inl (.inl tma))) h
  · exact absurd (.inr (.inl (.inr tac))) h
  · exact absurd (.inr (.inr (.inl snd))) h
  · exact .inr (.inr e)

/-- An address that stores no byte reads after a write as before it: the bank-select range is in bank 0. -/
theorem peek_memWrite_not_stored (s : State) {a : Word} (v : Byte) (h : ¬ IsStored a) :
    (s.memWrite a v).peek a = s.peek a := by
  rcases memWrite_of_not_stored s v h with e | ⟨sel, -⟩ | e
  · rw [e]
  · have low : a.toNat < 0x4000 := by unfold IsBankSelect at sel; omega
    rw [peek_romFixed _ low, peek_romFixed _ low, State.memWrite_rom]
  · rw [e]
    exact peek_congr rfl rfl rfl a

/-- Settles O36, by whether the address stores bytes; the frame is `storesOnlyAt_memWrite`. -/
theorem writeThenRead : Obligations.WriteThenRead := fun s a v =>
  ⟨peek_memWrite_same s v, fun h _ => peek_memWrite_not_stored s v h, storesOnlyAt_memWrite s a v,
    s.memWrite_cpu a v, s.memWrite_draws a v⟩

/-! ### The map of reads -/

/-- Settles O32: one law of the bus for each kind of address, and what the read of each leaves behind. -/
theorem readMap : Obligations.ReadMap := by
  intro s a
  exact ⟨peek_romFixed s, peek_bankWindow s, fun lo hi => peek_absent s (.inl ⟨lo, hi⟩), peek_ram s,
    fun lo hi => peek_absent s (.inr ⟨lo, hi⟩), fun h => h ▸ peek_tma s,
    fun h => h ▸ peek_tac s, peek_sound s, fun h => h ▸ peek_ie s,
    fun h => ⟨peek_unimplemented s h, afterRead_unimplemented s h⟩,
    fun h => ⟨peek_counter s h, afterRead_counter s h⟩, afterRead_plain s⟩

/-! ### The map of writes -/

/-- The observer's call is one event, where an observer is registered (60_exceptions.md R384). -/
theorem observe_eq (s : State) (a : Word) (v : Byte) : s.observe a v =
    { s with host := { s.host with events :=
      if s.host.observer then .ioWrite s.sessionCycles a v :: s.host.events else s.host.events } } := by
  unfold State.observe
  split <;> rfl

/-- Settles O33: the laws of the bus by the kind of address; a sound register's write is stored, acted on, observed. -/
theorem writeMap : Obligations.WriteMap := by
  intro s a v
  refine ⟨memWrite_ignored s v, memWrite_ram s v, fun h => h ▸ memWrite_ie s v, memWrite_unimplemented s v, ?_⟩
  intro h
  obtain ⟨-, -, low⟩ := sound_reg h
  simp only [memWrite_sound s v h, State.writeSound, Sound.write, observe_eq, low]

/-! ### The bank select -/

/-- The number a bank select asks for: the whole byte, 0 read as 1 (20_memory.md R80). -/
def requestedBank (v : Byte) : Nat := if v = 0#8 then 1 else v.toNat

theorem requestedBank_eq (v : Byte) : (if v.toNat = 0 then 1 else v.toNat) = requestedBank v := by
  have zero : v.toNat = 0 ↔ v = 0#8 := by rw [← BitVec.toNat_inj]; rfl
  simp only [requestedBank, zero]

theorem selectedBank_eq (n : Nat) (v : Byte) :
    selectedBank n v = if requestedBank v < n then requestedBank v else n - 1 := by
  simp only [selectedBank, requestedBank_eq, ← Nat.not_lt, ite_not]

theorem bankClamped_eq (n : Nat) (v : Byte) : bankClamped n v = decide (n ≤ requestedBank v) := by
  rw [bankClamped, requestedBank_eq]

/-- The clamp's diagnostic is sent where none was marked, and marked (R101, log 11). -/
theorem warnClamp_eq_mark (s : State) : s.warnClamp = { s with host := { s.host with
    events := if s.host.bankClampWarned = false then .diag .bankClamp :: s.host.events else s.host.events
    bankClampWarned := true } } := by
  unfold State.warnClamp
  split
  · next marked => rw [if_neg (by simp [marked]), ← marked]
  · next unmarked => simp [unmarked]

/-- A bank select, whole: the bank, and the report of a clamp where none was marked. -/
theorem selectBank_eq_report (s : State) (v : Byte) : s.selectBank v =
    { s with
      bus := { s.bus with romBank := selectedBank s.bus.bankCount v }
      host := { s.host with
        events := if bankClamped s.bus.bankCount v = true ∧ s.host.bankClampWarned = false then
          .diag .bankClamp :: s.host.events else s.host.events
        bankClampWarned := s.host.bankClampWarned || bankClamped s.bus.bankCount v } } := by
  unfold State.selectBank
  simp only
  split
  · next clamped => rw [warnClamp_eq_mark]; simp [clamped]
  · next fits => simp [fits]

/-- Settles O34, from the whole bank select. -/
theorem bankSelect : Obligations.BankSelect := by
  intro s a v h
  have e := memWrite_bankSelect s v h
  rw [selectBank_eq_report, selectedBank_eq, bankClamped_eq] at e
  simp only [decide_eq_true_eq] at e
  rw [e]
  exact ⟨rfl, rfl, rfl, rfl, rfl, rfl, rfl⟩

/-! ### The timer registers -/

/-- The divisors of the four clock selects (60_exceptions.md R371). -/
theorem timerDivisor_eq (tac : Byte) : timerDivisor tac =
    if tac.toNat % 4 = 0 then 1024 else if tac.toNat % 4 = 1 then 16
    else if tac.toNat % 4 = 2 then 64 else 256 := by
  unfold timerDivisor
  split
  · next select => simp [select]
  · next select => simp [select]
  · next select => simp [select]
  · next not0 not1 not2 => rw [if_neg not0, if_neg not1, if_neg not2]

/-- Settles O35: a write to TMA or to TAC stores the byte and then reprograms the timer. -/
theorem timerReprogram : Obligations.TimerReprogram := by
  intro s a v h
  rcases h with rfl | rfl
  · rw [memWrite_tma, reprogramTimer_eq]
    exact ⟨rfl, rfl, by rw [← timerDivisor_eq]; rfl, rfl, rfl, rfl, rfl, rfl, rfl, rfl, rfl⟩
  · rw [memWrite_tac, reprogramTimer_eq]
    exact ⟨rfl, rfl, by rw [← timerDivisor_eq]; rfl, rfl, rfl, rfl, rfl, rfl, rfl, rfl, rfl⟩

end Sys2Proof.Machine
end

section
/-! PROOFS. The decoder's answers, byte by byte and for all bytes, and that every instruction completes. -/

namespace Sys2Proof.Machine

open Sys2Proof

/-! ### The decoder's answers -/

/-- With two bytes after the first, none is missing: the decoder answers and takes as many as the first byte says. -/
theorem exists_decode_three_bytes (b0 b1 b2 : Byte) (rest : List Byte) :
    ∃ i, decode (b0 :: b1 :: b2 :: rest) = .ok (i, (b0 :: b1 :: b2 :: rest).drop (instrLength b0)) := by
  by_cases hop : b0 = 0xCB#8
  · subst hop
    obtain ⟨i, hi, -, -⟩ := encode_decodeCb b1
    exact ⟨i, by simp only [decode, if_true, hi]; rfl⟩
  · rcases instrLength_range b0 with e | e | e
    · exact ⟨decodePrimary b0 0#8 0#8, by simp only [decode, if_neg hop, e]; rfl⟩
    · exact ⟨decodePrimary b0 b1 0#8, by simp only [decode, if_neg hop, e]; rfl⟩
    · exact ⟨decodePrimary b0 b1 b2, by simp only [decode, if_neg hop, e]; rfl⟩

/-- An instruction decoded from bytes with `n` of them taken is `n` bytes long. -/
theorem encode_length_of_decode_drop {i : Instr} {bytes : List Byte} {n : Nat} (hn : n ≤ bytes.length)
    (h : decode bytes = .ok (i, bytes.drop n)) : (encode i).length = n := by
  have total := congrArg List.length (encode_of_decode h).2
  rw [List.length_append, List.length_drop] at total
  omega

/-- Settles O27: the decoder answers, and what it answers is the encoding of a whole instruction. -/
theorem decodeTotal : Obligations.DecodeTotal := by
  have range : ∀ b : Byte, 1 ≤ instrLength b ∧ instrLength b ≤ 3 := by
    intro b
    have := instrLength_range b
    omega
  refine ⟨fun b0 b1 b2 rest => ?_, rfl, range⟩
  obtain ⟨i, h⟩ := exists_decode_three_bytes b0 b1 b2 rest
  have fits : instrLength b0 ≤ (b0 :: b1 :: b2 :: rest).length := (range b0).2.trans (by simp)
  exact ⟨i, (encode_of_decode h).1, h, encode_length_of_decode_drop fits h⟩

/-- Settles O25, word by word, by running the decoder. -/
theorem sampleWords : Obligations.SampleWords :=
  ⟨rfl, rfl, rfl, rfl, rfl, rfl, rfl, rfl, rfl, rfl, rfl, rfl⟩

/-! ### Every instruction completes -/

/-- STOP and the illegal opcodes end in a state that says why the CPU stopped, and charge nothing. -/
theorem exec_of_isFatal {i : Instr} (h : IsFatal i) (s : State) :
    ∃ t, exec i s = .next t ∧ t.cpu.stopReason.isSome = true ∧ t.cycles = 0 := by
  rcases h with rfl | ⟨r, hr, rfl⟩
  · exact ⟨_, exec_stop_eq s, rfl, rfl⟩
  · exact ⟨_, Laws.exec_illegal r hr s, rfl, rfl⟩

/-- Every other instruction with a meaning goes on. -/
theorem exec_goesOn_of_not_isFatal {i : Instr} {s : State} (h : ¬ IsFatal i)
    (hd : ¬ (i = .daa ∧ s.host.daaMode = .refuse)) : GoesOn s (exec i s) := by
  by_cases e : i = .daa
  · subst e
    exact exec_daa_goesOn fun m => hd ⟨rfl, m⟩
  · exact exec_goesOn i s (not_or.mpr ⟨e, h⟩)

/-- An outcome that goes on leaves `stop_reason` alone and charges a count of the opcode tables. -/
theorem GoesOn.exists_next {s : State} {o : Out} (h : GoesOn s o) :
    ∃ t, o = .next t ∧ t.cpu.stopReason = s.cpu.stopReason ∧ CycleCount t.cycles := by
  obtain ⟨n, hn, t, e, m⟩ := h
  exact ⟨t.charge n, e, m.stopReason, hn⟩

/-- Settles O24: DAA where it is refused, the fatal instructions, and all others, which go on. -/
theorem everyInstructionCompletes : Obligations.EveryInstructionCompletes := by
  intro i s
  refine ⟨?_, fun meant => ?_⟩
  · rintro ⟨rfl, refused⟩
    exact exec_daa_refuse refused
  · by_cases fatal : IsFatal i
    · obtain ⟨t, e, stopped⟩ := exec_of_isFatal fatal s
      exact ⟨t, e, fun _ => stopped, fun h => absurd fatal h⟩
    · obtain ⟨t, e, kept⟩ := (exec_goesOn_of_not_isFatal fatal meant).exists_next
      exact ⟨t, e, fun h => absurd h fatal, fun _ => kept⟩

end Sys2Proof.Machine
end

section
/-! PROOFS. Loads, stores and the stack: each shared operation's result and frame, said once, and the encodings of
the rows it runs. -/

namespace Sys2Proof.Machine

open Sys2Proof Sys2Proof.Laws

/-! ### Register loads -/

theorem encode_ldOf (dst src : Reg8) :
    encode (.ldOf dst src) = [BitVec.ofNat 8 (0x40 + 8 * dst.code + src.code)] := by
  cases dst <;> cases src <;> rfl

theorem encode_ldImmOf (dst : Reg8) (n : Byte) :
    encode (.ldImmOf dst n) = [BitVec.ofNat 8 (0x06 + 8 * dst.code), n] := by
  cases dst <;> rfl

/-- An instruction that writes one register and nothing else. -/
theorem setReg8_done (s : State) (dst : Reg8) (v : Byte) (n : Nat) :
    ∃ t, (s.setReg8 dst v).done n = .next t ∧ t.reg8 dst = v ∧
      t.cpu.f = s.cpu.f ∧ t.cpu.sp = s.cpu.sp ∧ t.cpu.pc = s.cpu.pc ∧ RegsOnly [dst] n s t := by
  have regs : RegsSameBut [dst] s ((s.setReg8 dst v).charge n) := fun q hq => by
    rw [List.mem_singleton] at hq
    simp [hq]
  exact ⟨_, rfl, by simp, by simp, by simp, by simp,
    regsOnly_of regs (by simp [ControlSame]) (by simp [OutsideSame]) rfl⟩

/-- Settles O1: both forms write one register. -/
theorem registerLoads : Obligations.RegisterLoads := by
  refine ⟨fun dst src s => ⟨encode_ldOf dst src, ?_⟩, fun dst n s => ⟨encode_ldImmOf dst n, ?_⟩⟩
  · rw [exec_ldOf]
    exact setReg8_done s dst (s.reg8 src) 4
  · rw [exec_ldImmOf]
    exact setReg8_done s dst n 8

/-! ### Loads from memory -/

theorem encode_ldFromHlOf (dst : Reg8) :
    encode (.ldFromHlOf dst) = [BitVec.ofNat 8 (0x46 + 8 * dst.code)] := by
  cases dst <;> rfl

/-- A load reads the byte at its mode's address, written `a`, into its register. -/
theorem opLoad_reads {s : State} {mode : AddrMode} {a : Word} (ha : s.effective mode = a) (dst : Reg8) (n : Nat) :
    ∃ t, opLoad dst mode n s = .next t ∧ t.reg8 dst = s.peek a ∧
      t.cpu.f = s.cpu.f ∧ t.cpu.sp = s.cpu.sp ∧ t.cpu.pc = s.cpu.pc ∧ ReadsOnly a [dst] n s t := by
  subst ha
  obtain ⟨t, e, loaded, f, sp, pc, regs, control, outside, -, cycles⟩ :=
    setReg8_done (s.afterRead (s.effective mode)) dst (s.peek (s.effective mode)) n
  simp only [RegsSameBut, ControlSame, State.afterRead_cpu, State.afterRead_reg8] at f sp pc regs control
  exact ⟨t, e, loaded, f, sp, pc, readsOnly_of regs control outside cycles⟩

/-- Settles O2, mode by mode. -/
theorem loadsFromMemory : Obligations.LoadsFromMemory := by
  intro s i dst a cycles bytes h
  rcases h with named | ⟨_, rfl, rfl, rfl, rfl, rfl⟩ | ⟨_, rfl, rfl, rfl, rfl, rfl⟩ | ⟨n, rfl, rfl, rfl, rfl, rfl⟩
  · simp only [List.mem_cons, Prod.mk.injEq, List.not_mem_nil, or_false] at named
    rcases named with ⟨rfl, rfl, rfl, rfl, rfl⟩ | ⟨rfl, rfl, rfl, rfl, rfl⟩ | ⟨rfl, rfl, rfl, rfl, rfl⟩
    · exact ⟨rfl, opLoad_reads (mode := .bc) rfl .a 8⟩
    · exact ⟨rfl, opLoad_reads (mode := .de) rfl .a 8⟩
    · exact ⟨rfl, opLoad_reads (mode := .highC) (highPage_eq s.cpu.c) .a 8⟩
  · rw [exec_ldFromHlOf]
    exact ⟨encode_ldFromHlOf dst, opLoad_reads (mode := .hl) rfl dst 8⟩
  · exact ⟨rfl, opLoad_reads (mode := .abs a) rfl .a 16⟩
  · exact ⟨rfl, opLoad_reads (mode := .high n) (highPage_eq n) .a 12⟩

/-! ### Stores to memory -/

theorem encode_ldToHlOf (src : Reg8) : encode (.ldToHlOf src) = [BitVec.ofNat 8 (0x70 + src.code)] := by
  cases src <;> rfl

/-- An instruction that stores one byte and nothing else. -/
theorem memWrite_done (s : State) (a : Word) (v : Byte) (n : Nat) :
    ∃ t, (s.memWrite a v).done n = .next t ∧
      t.cpu.f = s.cpu.f ∧ t.cpu.sp = s.cpu.sp ∧ t.cpu.pc = s.cpu.pc ∧ StoresByte a v [] n s t :=
  ⟨_, rfl, by simp, by simp, by simp,
    storesByte_of (fun q _ => by simp) (by simp [ControlSame]) (.refl _) rfl⟩

/-- A store writes its register at its mode's address, written `a`. -/
theorem opStore_stores {s : State} {mode : AddrMode} {a : Word} (ha : s.effective mode = a) (src : Reg8) (n : Nat) :
    ∃ t, opStore mode src n s = .next t ∧
      t.cpu.f = s.cpu.f ∧ t.cpu.sp = s.cpu.sp ∧ t.cpu.pc = s.cpu.pc ∧ StoresByte a (s.reg8 src) [] n s t := by
  subst ha
  exact memWrite_done s (s.effective mode) (s.reg8 src) n

/-- Settles O3, mode by mode. -/
theorem storesToMemory : Obligations.StoresToMemory := by
  intro s i a v cycles bytes h
  rcases h with named | ⟨_, rfl, rfl, rfl, rfl, rfl⟩ | ⟨_, rfl, rfl, rfl, rfl, rfl⟩ |
    ⟨_, rfl, rfl, rfl, rfl, rfl⟩ | ⟨n, rfl, rfl, rfl, rfl, rfl⟩
  · simp only [List.mem_cons, Prod.mk.injEq, List.not_mem_nil, or_false] at named
    rcases named with ⟨rfl, rfl, rfl, rfl, rfl⟩ | ⟨rfl, rfl, rfl, rfl, rfl⟩ | ⟨rfl, rfl, rfl, rfl, rfl⟩
    · exact ⟨rfl, opStore_stores (mode := .bc) rfl .a 8⟩
    · exact ⟨rfl, opStore_stores (mode := .de) rfl .a 8⟩
    · exact ⟨rfl, opStore_stores (mode := .highC) (highPage_eq s.cpu.c) .a 8⟩
  · rw [exec_ldToHlOf]
    exact ⟨encode_ldToHlOf _, opStore_stores (mode := .hl) rfl _ 8⟩
  · exact ⟨rfl, memWrite_done s s.hl v 12⟩
  · exact ⟨rfl, opStore_stores (mode := .abs a) rfl .a 16⟩
  · exact ⟨rfl, opStore_stores (mode := .high n) (highPage_eq n) .a 12⟩

/-! ### Loads and stores that step HL -/

/-- The step of the (HL-) forms. -/
theorem add_ffff (w : Word) : w + 0xFFFF#16 = w - 1#16 := by bv_omega

/-- The store is at the HL before the step. -/
theorem opStoreStep_stores (s : State) (step : Word) (n : Nat) :
    ∃ t, opStoreStep step n s = .next t ∧ t.hl = s.hl + step ∧ StoresByte s.hl s.cpu.a [.h, .l] n s t ∧
      t.cpu.f = s.cpu.f ∧ t.cpu.sp = s.cpu.sp ∧ t.cpu.pc = s.cpu.pc := by
  have regs : RegsSameBut [.h, .l] s (((s.memWrite s.hl s.cpu.a).setHl (s.hl + step)).charge n) := fun q hq => by
    simp only [List.mem_cons, List.not_mem_nil, or_false, not_or] at hq
    simp [hq]
  exact ⟨_, rfl, by simp, storesByte_of regs (by simp [ControlSame]) (by simp [OutsideSame]) rfl,
    by simp, by simp, by simp⟩

theorem opLoadStep_eq (s : State) (step : Word) (n : Nat) : opLoadStep step n s =
    (((s.afterRead s.hl).setReg8 .a (s.peek s.hl)).setHl (s.hl + step)).done n := rfl

/-- The load is from the HL before the step. -/
theorem opLoadStep_reads (s : State) (step : Word) (n : Nat) :
    ∃ t, opLoadStep step n s = .next t ∧ t.hl = s.hl + step ∧ t.cpu.a = s.peek s.hl ∧
      ReadsOnly s.hl [.a, .h, .l] n s t ∧
      t.cpu.f = s.cpu.f ∧ t.cpu.sp = s.cpu.sp ∧ t.cpu.pc = s.cpu.pc := by
  have regs : RegsSameBut [.a, .h, .l] s
      ((((s.afterRead s.hl).setReg8 .a (s.peek s.hl)).setHl (s.hl + step)).charge n) := fun q hq => by
    simp only [List.mem_cons, List.not_mem_nil, or_false, not_or] at hq
    simp [hq]
  rw [opLoadStep_eq]
  exact ⟨_, rfl, by simp, by simp, readsOnly_of regs (by simp [ControlSame]) (by simp [OutsideSame]) rfl,
    by simp, by simp, by simp⟩

/-- Settles O4: the store and the load, each with the step 1 and the step -1. -/
theorem loadStoreHlStep : Obligations.LoadStoreHlStep := by
  intro s
  rw [← add_ffff]
  exact ⟨rfl, rfl, rfl, rfl, opStoreStep_stores s 1#16 8, opStoreStep_stores s 0xFFFF#16 8,
    opLoadStep_reads s 1#16 8, opLoadStep_reads s 0xFFFF#16 8⟩

/-! ### 16-bit loads -/

theorem encode_ldPairOf (p : Pair) (nn : Word) :
    encode (.ldPairOf p nn) = [BitVec.ofNat 8 (0x01 + 16 * p.code), loByte nn, hiByte nn] := by
  cases p <;> rfl

@[simp] theorem State.charge_pair (s : State) (n : Nat) (p : Pair) : (s.charge n).pair p = s.pair p := by
  cases p <;> rfl

/-- A load of a pair writes the pair and nothing else. -/
theorem opLdPair_writes (s : State) (p : Pair) (nn : Word) (n : Nat) :
    ∃ t, opLdPair p nn n s = .next t ∧ t.pair p = nn ∧ (p ≠ .sp → t.cpu.sp = s.cpu.sp) ∧
      t.cpu.f = s.cpu.f ∧ t.cpu.pc = s.cpu.pc ∧ RegsOnly (pairRegs p) n s t := by
  obtain ⟨sp, f, pc, control, outside⟩ := setPair_frame s p nn
  have regs : RegsSameBut (pairRegs p) s ((s.setPair p nn).charge n) := fun q hq => by
    rw [State.charge_reg8, State.setPair_reg8 s p nn hq]
  exact ⟨_, rfl, by simp, sp, f, pc, regsOnly_of regs control outside rfl⟩

/-- No address that stores bytes is in the switchable window. -/
theorem IsStored.not_isBankWindow {a : Word} (h : IsStored a) : ¬ IsBankWindow a := by
  unfold IsBankWindow
  rcases h with ram | timer | sound | rfl
  · unfold IsRam at ram; omega
  · rw [isTimerReg_iff] at timer; omega
  · unfold IsSoundReg at sound; omega
  · decide

/-- Two stores at different addresses: each byte reads back, and nothing outside the two addresses changes. -/
theorem memWrite_memWrite_stores (s : State) {a b : Word} (hab : a ≠ b) (v w : Byte) :
    StoresOnlyAt [a, b] s ((s.memWrite a v).memWrite b w) ∧
    (IsStored a → ((s.memWrite a v).memWrite b w).peek a = v) ∧
    (IsStored b → ((s.memWrite a v).memWrite b w).peek b = w) := by
  refine ⟨(storesOnlyAt_memWrite s a v).trans (storesOnlyAt_memWrite _ b w), fun h => ?_, peek_memWrite_same _ w⟩
  rw [peek_memWrite_other _ w hab fun _ => h.not_isBankWindow, peek_memWrite_same s v h]

/-- Settles O5: the pair loads, LD SP,HL, and the two stores of LD (nn),SP. -/
theorem sixteenBitLoads : Obligations.SixteenBitLoads := by
  refine ⟨fun s => ⟨fun p nn => ⟨encode_ldPairOf p nn, ?_⟩, rfl, ?_⟩, fun nn s => ⟨rfl, ?_⟩⟩
  · rw [exec_ldPairOf]
    exact opLdPair_writes s p nn 12
  · obtain ⟨t, e, value, -, f, pc, frame⟩ := opLdPair_writes s .sp s.hl 8
    exact ⟨t, e, value, f, pc, frame⟩
  · have hne : nn ≠ nn + 1#16 := by bv_omega
    obtain ⟨frame, low, high⟩ := memWrite_memWrite_stores s hne (loByte s.cpu.sp) (hiByte s.cpu.sp)
    exact ⟨_, rfl, by simp, rfl, by simp, .refl _, frame, low, high⟩

/-! ### The stack -/

theorem encode_pushOf (p : StackPair) : encode (.pushOf p) = [BitVec.ofNat 8 (0xC5 + 16 * p.code)] := by
  cases p <;> rfl

theorem encode_popOf (p : StackPair) : encode (.popOf p) = [BitVec.ofNat 8 (0xC1 + 16 * p.code)] := by
  cases p <;> rfl

/-- A push leaves PC and the control flags alone. -/
theorem push16_pc_control (s : State) (v : Word) :
    (s.push16 v).cpu.pc = s.cpu.pc ∧ ControlSame s (s.push16 v) := by
  simp [push16_eq, ControlSame]

/-- PUSH pushes its pair. -/
theorem opPush_pushes (s : State) (p : StackPair) (n : Nat) :
    ∃ t, opPush p n s = .next t ∧ PushesWord (s.stackPair p) s t ∧
      t.cpu.pc = s.cpu.pc ∧ ControlSame s t ∧ t.cycles = n := by
  obtain ⟨pc, control⟩ := push16_pc_control s (s.stackPair p)
  exact ⟨_, rfl, (pushesWord_push16 s (s.stackPair p)).congr (by simp) rfl rfl (.refl _), pc, control, rfl⟩

/-- The state from which a pop writes its pair: the two reads done and SP moved. -/
def afterPop (s : State) : State :=
  ((s.afterRead s.cpu.sp).afterRead (s.cpu.sp + 1#16)).setSp (s.cpu.sp + 2#16)

@[simp] theorem afterPop_cpu (s : State) : (afterPop s).cpu = { s.cpu with sp := s.cpu.sp + 2#16 } := by
  simp [afterPop, State.setSp]

@[simp] theorem afterPop_reg8 (s : State) (q : Reg8) : (afterPop s).reg8 q = s.reg8 q := by
  simp [afterPop]

theorem opPop_eq (s : State) (q : StackPair) (n : Nat) :
    opPop q n s = ((afterPop s).setStackPair q (poppedWord s)).done n := by
  simp only [opPop, pop16_eq, afterPop]

/-- A pop of a pair without F writes the word popped to the pair. -/
theorem opPop_pair {p : Pair} {q : StackPair} (hp : p ≠ .sp)
    (hq : ∀ (u : State) (v : Word), u.setStackPair q v = u.setPair p v) (s : State) (n : Nat) :
    ∃ t, opPop q n s = .next t ∧ t.pair p = poppedWord s ∧ t.cpu.f = s.cpu.f ∧
      t.cpu.pc = s.cpu.pc ∧ ControlSame s t ∧ t.cycles = n ∧ PopsWord (pairRegs p) s t := by
  rw [opPop_eq, hq]
  obtain ⟨t, e, value, sp, f, pc, regs, control, outside, -, cycles⟩ :=
    opLdPair_writes (afterPop s) p (poppedWord s) n
  simp only [RegsSameBut, ControlSame, afterPop_cpu, afterPop_reg8] at sp f pc regs control
  exact ⟨t, e, value, f, pc, control, cycles, popsWord_of_pop16 regs (sp hp) outside⟩

/-- POP AF writes A and, through the door to F, its upper four bits. -/
theorem opPop_af (s : State) (n : Nat) :
    ∃ t, opPop .af n s = .next t ∧ t.cpu.a = hiByte (poppedWord s) ∧
      t.cpu.f = loByte (poppedWord s) &&& 0xF0#8 ∧
      t.cpu.pc = s.cpu.pc ∧ ControlSame s t ∧ t.cycles = n ∧ PopsWord [.a] s t := by
  rw [opPop_eq, State.setStackPair]
  have regs : RegsSameBut [.a] s
      ((((afterPop s).setReg8 .a (hiByte (poppedWord s))).setF (loByte (poppedWord s))).charge n) := fun q hq => by
    rw [List.mem_singleton] at hq
    simp [hq]
  exact ⟨_, rfl, rfl, rfl, by simp, by simp [ControlSame], rfl, popsWord_of_pop16 regs (by simp) (.refl _)⟩

/-- Settles O6: the push of each pair, the pop of each pair without F, and POP AF. -/
theorem pushAndPop : Obligations.PushAndPop := by
  refine ⟨fun p s => ⟨encode_pushOf p, ?_⟩, fun s => ⟨encode_popOf, fun p q h => ?_, ?_⟩⟩
  · rw [exec_pushOf]
    exact opPush_pushes s p 16
  · rw [exec_popOf]
    simp only [List.mem_cons, Prod.mk.injEq, List.not_mem_nil, or_false] at h
    rcases h with ⟨rfl, rfl⟩ | ⟨rfl, rfl⟩ | ⟨rfl, rfl⟩
    · exact opPop_pair (by decide) (fun _ _ => rfl) s 12
    · exact opPop_pair (by decide) (fun _ _ => rfl) s 12
    · exact opPop_pair (by decide) (fun _ _ => rfl) s 12
  · rw [exec_popOf]
    exact opPop_af s 12

end Sys2Proof.Machine
end

section
/-! PROOFS. 8-bit arithmetic and logic: the flags' comparison against the true carries, what each shared operation
leaves in its destination and in F, and the encodings of the rows it runs. -/

namespace Sys2Proof.Machine

open Sys2Proof Sys2Proof.Laws

/-! ### The flag method against the true carry -/

/-- A sum of less than two turns is reduced by at most one. -/
theorem add_mod_of_le_turn {m a y : Nat} (ha : a < m) (hy : y ≤ m) :
    (a + y) % m = if a + y < m then a + y else a + y - m := by
  split
  · next short => exact Nat.mod_eq_of_lt short
  · next turn => rw [Nat.mod_eq_sub_mod (Nat.le_of_not_lt turn), Nat.mod_eq_of_lt (by omega)]

/-- A sum that comes out lower than its first term passed the turn, and no full turn was added. -/
theorem add_mod_lt_iff {m a y : Nat} (ha : a < m) (hy : y ≤ m) : (a + y) % m < a ↔ m ≤ a + y ∧ y ≠ m := by
  rw [add_mod_of_le_turn ha hy]
  split <;> omega

/-- A difference that comes out higher than its first term borrowed, and no full turn was subtracted. -/
theorem lt_sub_mod_iff {m a y : Nat} (ha : a < m) (hy : y ≤ m) : a < (a + (m - y)) % m ↔ a < y ∧ y ≠ m := by
  rw [add_mod_of_le_turn ha (Nat.sub_le m y)]
  split <;> omega

theorem toNat_add_add (a x c : Byte) : (a + x + c).toNat = (a.toNat + (x.toNat + c.toNat)) % 256 := by
  rw [BitVec.toNat_add, BitVec.toNat_add, Nat.mod_add_mod, Nat.add_assoc]

theorem toNat_add_add_nibble (a x c : Byte) :
    (a + x + c).toNat % 16 = (a.toNat % 16 + (x.toNat % 16 + c.toNat)) % 16 := by
  rw [toNat_add_add, Nat.mod_mod_of_dvd _ (by decide : 16 ∣ 256)]
  omega

theorem toNat_sub_sub (a x c : Byte) (hc : c.toNat ≤ 1) :
    (a - x - c).toNat = (a.toNat + (256 - (x.toNat + c.toNat))) % 256 := by
  rw [BitVec.toNat_sub, BitVec.toNat_sub]
  omega

theorem toNat_sub_sub_nibble (a x c : Byte) (hc : c.toNat ≤ 1) :
    (a - x - c).toNat % 16 = (a.toNat % 16 + (16 - (x.toNat % 16 + c.toNat))) % 16 := by
  rw [toNat_sub_sub a x c hc, Nat.mod_mod_of_dvd _ (by decide : 16 ∣ 256)]
  omega

/-- Settles O8: each comparison is `add_mod_lt_iff` or `lt_sub_mod_iff`, with a turn of 256 for the byte and of 16
for its low nibble. -/
theorem flagMethodAgainstTrueCarry : Obligations.FlagMethodAgainstTrueCarry := by
  intro a x c hc
  have byte : x.toNat + c.toNat ≤ 256 := by omega
  have nibble : x.toNat % 16 + c.toNat ≤ 16 := by omega
  have low : a.toNat % 16 < 16 := Nat.mod_lt _ (by decide)
  simp only [← Bool.decide_and, Nat.add_assoc]
  refine ⟨?_, ?_, ?_, ?_⟩
  · rw [carryAdd, toNat_add_add, decide_eq_decide]
    exact add_mod_lt_iff a.isLt byte
  · rw [halfAdd_eq, toNat_add_add_nibble, decide_eq_decide]
    exact add_mod_lt_iff low nibble
  · rw [carrySub, toNat_sub_sub a x c hc, decide_eq_decide]
    exact lt_sub_mod_iff a.isLt byte
  · rw [halfSub_eq, toNat_sub_sub_nibble a x c hc, decide_eq_decide]
    exact lt_sub_mod_iff low nibble

/-! ### The eight operations -/

/-- The model's addition-style flags are those of the comparison (41_alu8.md R200). -/
theorem comparedFlags_of_add {old new : Byte} {c : Bool} {t : State}
    (h : FlagsAre (zeroM new) false (halfAdd old new) c t) : comparedFlags false old new c t := by
  rwa [halfAdd_eq] at h

/-- The model's subtraction-style flags are those of the comparison (41_alu8.md R200). -/
theorem comparedFlags_of_sub {old new : Byte} {c : Bool} {t : State}
    (h : FlagsAre (zeroM new) true (halfSub old new) c t) : comparedFlags true old new c t := by
  rwa [halfSub_eq] at h

/-- An instruction that writes one register and the flags, and nothing else. -/
theorem setReg8_setFlags_done (s : State) (r : Reg8) (v : Byte) (z n h c : Bool) (k : Nat) :
    ∃ t, ((s.setReg8 r v).setFlags z n h c).done k = .next t ∧ t.reg8 r = v ∧ FlagsAre z n h c t ∧
      t.cpu.sp = s.cpu.sp ∧ t.cpu.pc = s.cpu.pc ∧ RegsOnly [r] k s t := by
  have regs : RegsSameBut [r] s (((s.setReg8 r v).setFlags z n h c).charge k) := fun q hq => by
    rw [List.mem_singleton] at hq
    simp [hq]
  exact ⟨_, rfl, by simp, flagsAre_of_f (by simp), by simp, by simp,
    regsOnly_of regs (by simp [ControlSame]) (by simp [OutsideSame]) rfl⟩

/-- An operation writes A, which CP gives the value it had, and the flags, which fix its result. -/
theorem alu_eq (s : State) (op : AluOp) (x : Byte) : ∃ v z n h c,
    s.alu op x = (s.setReg8 .a v).setFlags z n h c ∧
    ∀ t : State, t.cpu.a = v → FlagsAre z n h c t → AluResult op x s t := by
  cases op with
  | add => exact ⟨_, _, _, _, _, rfl, fun _ ha hf => ⟨ha, comparedFlags_of_add hf⟩⟩
  | adc => exact ⟨_, _, _, _, _, rfl, fun _ ha hf => ⟨ha, comparedFlags_of_add hf⟩⟩
  | sub => exact ⟨_, _, _, _, _, rfl, fun _ ha hf => ⟨ha, comparedFlags_of_sub hf⟩⟩
  | sbc => exact ⟨_, _, _, _, _, rfl, fun _ ha hf => ⟨ha, comparedFlags_of_sub hf⟩⟩
  | and => exact ⟨_, _, _, _, _, rfl, fun _ ha hf => ⟨ha, hf⟩⟩
  | xor => exact ⟨_, _, _, _, _, rfl, fun _ ha hf => ⟨ha, hf⟩⟩
  | or => exact ⟨_, _, _, _, _, rfl, fun _ ha hf => ⟨ha, hf⟩⟩
  | cp => exact ⟨s.cpu.a, _, _, _, _, rfl, fun _ ha hf => ⟨ha, comparedFlags_of_sub hf⟩⟩

/-- An operation on a byte at hand. -/
theorem alu_done (s : State) (op : AluOp) (x : Byte) (k : Nat) :
    ∃ t, (s.alu op x).done k = .next t ∧ AluResult op x s t ∧
      t.cpu.sp = s.cpu.sp ∧ t.cpu.pc = s.cpu.pc ∧ RegsOnly [.a] k s t := by
  obtain ⟨v, z, n, h, c, e, result⟩ := alu_eq s op x
  rw [e]
  obtain ⟨t, et, value, flags, frame⟩ := setReg8_setFlags_done s .a v z n h c k
  exact ⟨t, et, result t value flags, frame⟩

/-- An operation on the byte at HL. -/
theorem opAlu_mem (s : State) (op : AluOp) (k : Nat) :
    ∃ t, opAlu op .mem k s = .next t ∧ AluResult op (s.peek s.hl) s t ∧
      t.cpu.sp = s.cpu.sp ∧ t.cpu.pc = s.cpu.pc ∧ ReadsOnly s.hl [.a] k s t := by
  obtain ⟨t, e, result, sp, pc, regs, control, outside, -, cycles⟩ :=
    alu_done (s.afterRead s.hl) op (s.peek s.hl) k
  simp only [AluResult, RegsSameBut, ControlSame, State.afterRead_cpu, State.afterRead_reg8,
    State.afterRead_flagC] at result sp pc regs control
  exact ⟨t, e, result, sp, pc, readsOnly_of regs control outside cycles⟩

theorem encode_aluOf_reg (op : AluOp) (r : Reg8) :
    encode (.aluOf op (.reg r)) = [BitVec.ofNat 8 (0x80 + 8 * op.code + r.code)] := by
  cases op <;> cases r <;> rfl

theorem encode_aluOf_mem (op : AluOp) : encode (.aluOf op .mem) = [BitVec.ofNat 8 (0x86 + 8 * op.code)] := by
  cases op <;> rfl

theorem encode_aluImmOf (op : AluOp) (n : Byte) :
    encode (.aluImmOf op n) = [BitVec.ofNat 8 (0xC6 + 8 * op.code), n] := by
  cases op <;> rfl

/-- Settles O7: a register and an immediate give the operation its byte as it is, (HL) after a read. -/
theorem aluOperations : Obligations.AluOperations := by
  refine fun op s => ⟨fun r => ⟨encode_aluOf_reg op r, ?_⟩, ⟨encode_aluOf_mem op, ?_⟩,
    fun n => ⟨encode_aluImmOf op n, ?_⟩⟩
  · rw [exec_aluOf]
    exact alu_done s op (s.reg8 r) 4
  · rw [exec_aluOf]
    exact opAlu_mem s op 8
  · rw [exec_aluImmOf]
    exact alu_done s op n 8

/-! ### INC and DEC -/

theorem encode_incOf_reg (r : Reg8) : encode (.incOf (.reg r)) = [BitVec.ofNat 8 (0x04 + 8 * r.code)] := by
  cases r <;> rfl

theorem encode_decOf_reg (r : Reg8) : encode (.decOf (.reg r)) = [BitVec.ofNat 8 (0x05 + 8 * r.code)] := by
  cases r <;> rfl

@[simp] theorem State.setReg8_flagC (s : State) (r : Reg8) (v : Byte) : (s.setReg8 r v).flagC = s.flagC := by
  simp [State.flagC]

theorem opInc_reg_eq (s : State) (r : Reg8) (k : Nat) : opInc (.reg r) k s =
    ((s.setReg8 r (s.reg8 r + 1#8)).setFlags (zeroM (s.reg8 r + 1#8)) false
      (halfAdd (s.reg8 r) (s.reg8 r + 1#8)) s.flagC).done k := by
  simp only [opInc, State.readOpnd, State.writeOpnd, State.flagsInc, State.setReg8_flagC]

theorem opDec_reg_eq (s : State) (r : Reg8) (k : Nat) : opDec (.reg r) k s =
    ((s.setReg8 r (s.reg8 r - 1#8)).setFlags (zeroM (s.reg8 r - 1#8)) true
      (halfSub (s.reg8 r) (s.reg8 r - 1#8)) s.flagC).done k := by
  simp only [opDec, State.readOpnd, State.writeOpnd, State.flagsDec, State.setReg8_flagC]

/-- Settles O9: both write the register and the flags, C with the value it had. -/
theorem incDecRegister : Obligations.IncDecRegister := by
  refine fun r s => ⟨encode_incOf_reg r, encode_decOf_reg r, ?_, ?_⟩
  · rw [exec_incOf, opInc_reg_eq]
    obtain ⟨t, e, value, flags, frame⟩ := setReg8_setFlags_done s r _ _ _ _ _ 4
    exact ⟨t, e, value, comparedFlags_of_add flags, frame⟩
  · rw [exec_decOf, opDec_reg_eq]
    obtain ⟨t, e, value, flags, frame⟩ := setReg8_setFlags_done s r _ _ _ _ _ 4
    exact ⟨t, e, value, comparedFlags_of_sub flags, frame⟩

theorem opInc_mem_eq (s : State) (k : Nat) : opInc .mem k s =
    (((s.afterRead s.hl).memWrite s.hl (s.peek s.hl + 1#8)).setFlags (zeroM (s.peek s.hl + 1#8)) false
      (halfAdd (s.peek s.hl) (s.peek s.hl + 1#8)) s.flagC).done k := by
  simp only [opInc, State.readOpnd, State.memRead, State.writeOpnd, State.flagsInc, State.afterRead_hl,
    State.memWrite_flagC, State.afterRead_flagC]

theorem opDec_mem_eq (s : State) (k : Nat) : opDec .mem k s =
    (((s.afterRead s.hl).memWrite s.hl (s.peek s.hl - 1#8)).setFlags (zeroM (s.peek s.hl - 1#8)) true
      (halfSub (s.peek s.hl) (s.peek s.hl - 1#8)) s.flagC).done k := by
  simp only [opDec, State.readOpnd, State.memRead, State.writeOpnd, State.flagsDec, State.afterRead_hl,
    State.memWrite_flagC, State.afterRead_flagC]

/-- An instruction that reads a byte, writes one to the same address, and writes the flags. -/
theorem rewrite_setFlags_done (s : State) (a : Word) (v : Byte) (z n h c : Bool) (k : Nat) :
    ∃ t, (((s.afterRead a).memWrite a v).setFlags z n h c).done k = .next t ∧ RewritesByte a v k s t ∧
      FlagsAre z n h c t ∧ t.cpu.sp = s.cpu.sp ∧ t.cpu.pc = s.cpu.pc := by
  have regs : RegsSameBut [] s ((((s.afterRead a).memWrite a v).setFlags z n h c).charge k) := fun q _ => by simp
  exact ⟨_, rfl, rewritesByte_of regs (by simp [ControlSame]) (by simp [OutsideSame]) rfl,
    flagsAre_of_f (by simp), by simp, by simp⟩

/-- Settles O10: the flags are computed from the byte read, so the kind of address plays no part in them. -/
theorem incDecMemory : Obligations.IncDecMemory := by
  refine fun s => ⟨rfl, rfl, ?_, ?_⟩
  · rw [exec_incOf, opInc_mem_eq]
    obtain ⟨t, e, stored, flags, frame⟩ := rewrite_setFlags_done s s.hl _ _ _ _ _ 12
    exact ⟨t, e, stored, comparedFlags_of_add flags, frame⟩
  · rw [exec_decOf, opDec_mem_eq]
    obtain ⟨t, e, stored, flags, frame⟩ := rewrite_setFlags_done s s.hl _ _ _ _ _ 12
    exact ⟨t, e, stored, comparedFlags_of_sub flags, frame⟩

/-! ### CPL, SCF and CCF -/

/-- An instruction that writes the flags and nothing else. -/
theorem setFlags_done (s : State) (z n h c : Bool) (k : Nat) :
    ∃ t, (s.setFlags z n h c).done k = .next t ∧ FlagsAre z n h c t ∧
      t.cpu.sp = s.cpu.sp ∧ t.cpu.pc = s.cpu.pc ∧ RegsOnly [] k s t := by
  have regs : RegsSameBut [] s ((s.setFlags z n h c).charge k) := fun q _ => by simp
  exact ⟨_, rfl, flagsAre_of_f (by simp), by simp, by simp,
    regsOnly_of regs (by simp [ControlSame]) (by simp [OutsideSame]) rfl⟩

/-- Settles O11: CPL writes A and the flags, SCF and CCF the flags alone. -/
theorem accumulatorFlagOps : Obligations.AccumulatorFlagOps := fun s =>
  ⟨rfl, rfl, rfl,
    setReg8_setFlags_done s .a (s.cpu.a ^^^ 0xFF#8) s.flagZ true true s.flagC 4,
    setFlags_done s s.flagZ false false true 4,
    setFlags_done s s.flagZ false false (!s.flagC) 4⟩

/-! ### DAA -/

/-- The two corrections of DAA share no bit, so their OR is their sum (41_alu8.md R223). -/
theorem correction_toNat (hi lo : Prop) [Decidable hi] [Decidable lo] :
    ((if hi then 0x60#8 else 0#8) ||| (if lo then 0x06#8 else 0#8)).toNat =
      (if hi then 0x60 else 0) + (if lo then 0x06 else 0) := by
  split <;> split <;> rfl

/-- The model's adjustment is that of 41_alu8.md R223 on numbers. -/
theorem daaAdjust_eq (a : Byte) (n h c : Bool) : daaAdjust a n h c =
    (BitVec.ofNat 8 (decimalAdjust a.toNat n h c).1, (decimalAdjust a.toNat n h c).2) := by
  cases n with
  | true =>
    refine Prod.ext (BitVec.eq_of_toNat_eq ?_) rfl
    simp only [daaAdjust, decimalAdjust, if_true, BitVec.toNat_sub, correction_toNat, BitVec.toNat_ofNat]
    split <;> split <;> omega
  | false =>
    refine Prod.ext (BitVec.eq_of_toNat_eq ?_) rfl
    simp only [daaAdjust, decimalAdjust, Bool.false_eq_true, if_false, BitVec.toNat_add, correction_toNat,
      BitVec.toNat_ofNat, and_0f_toNat, Bool.or_eq_true, decide_eq_true_eq, Nat.add_assoc, Nat.mod_mod]

/-- DAA that writes A alone. -/
theorem exec_daa_adjustOnly {s : State} (mode : s.host.daaMode = .adjustOnly) :
    exec .daa s = (s.setReg8 .a (daaAdjust s.cpu.a s.flagN s.flagH s.flagC).1).done 4 := by
  show opDaa s.host.daaMode 4 s = _
  rw [mode]
  rfl

/-- DAA that writes Z, H and C too. -/
theorem exec_daa_hardware {s : State} (mode : s.host.daaMode = .hardware) :
    exec .daa s = ((s.setReg8 .a (daaAdjust s.cpu.a s.flagN s.flagH s.flagC).1).setFlags
      (zeroM (daaAdjust s.cpu.a s.flagN s.flagH s.flagC).1) s.flagN false
      (daaAdjust s.cpu.a s.flagN s.flagH s.flagC).2).done 4 := by
  show opDaa s.host.daaMode 4 s = _
  rw [mode]
  rfl

/-- Settles O12, mode by mode (`decimalAdjust` is the statement's own function). -/
theorem daa_decimalAdjust : Obligations.DecimalAdjust := by
  refine ⟨rfl, rfl, fun s => ⟨fun mode => ?_, fun mode => ?_, exec_daa_refuse⟩⟩
  · rw [exec_daa_adjustOnly mode, daaAdjust_eq]
    exact setReg8_done s .a _ 4
  · rw [exec_daa_hardware mode, daaAdjust_eq]
    generalize decimalAdjust s.cpu.a.toNat s.flagN s.flagH s.flagC = r
    obtain ⟨t, e, value, flags, frame⟩ := setReg8_setFlags_done s .a (BitVec.ofNat 8 r.1)
      (zeroM (BitVec.ofNat 8 r.1)) s.flagN false r.2 4
    rw [← value] at flags
    exact ⟨t, e, value, flags, frame⟩

end Sys2Proof.Machine
end

section
/-! PROOFS. 16-bit arithmetic: what each shared operation leaves in HL, SP or its pair and in F, and the encodings
of the rows it runs. -/

namespace Sys2Proof.Machine

open Sys2Proof Sys2Proof.Laws

/-! ### Register pairs -/

theorem encode_addHlOf (p : Pair) : encode (.addHlOf p) = [BitVec.ofNat 8 (0x09 + 16 * p.code)] := by
  cases p <;> rfl

theorem encode_incPairOf (p : Pair) : encode (.incPairOf p) = [BitVec.ofNat 8 (0x03 + 16 * p.code)] := by
  cases p <;> rfl

theorem encode_decPairOf (p : Pair) : encode (.decPairOf p) = [BitVec.ofNat 8 (0x0B + 16 * p.code)] := by
  cases p <;> rfl

/-- An instruction that writes HL and the flags, and nothing else. -/
theorem setHl_setFlags_done (s : State) (v : Word) (z n h c : Bool) (k : Nat) :
    ∃ t, ((s.setHl v).setFlags z n h c).done k = .next t ∧ t.hl = v ∧ FlagsAre z n h c t ∧
      t.cpu.sp = s.cpu.sp ∧ t.cpu.pc = s.cpu.pc ∧ RegsOnly [.h, .l] k s t := by
  have regs : RegsSameBut [.h, .l] s (((s.setHl v).setFlags z n h c).charge k) := fun q hq => by
    simp only [List.mem_cons, List.not_mem_nil, or_false, not_or] at hq
    simp [hq]
  exact ⟨_, rfl, by simp, flagsAre_of_f (by simp), by simp, by simp,
    regsOnly_of regs (by simp [ControlSame]) (by simp [OutsideSame]) rfl⟩

/-- INC rr is the load of the pair with its successor (42_alu16.md R251). -/
theorem opIncPair_eq_opLdPair (s : State) (p : Pair) (k : Nat) :
    opIncPair p k s = opLdPair p (s.pair p + 1#16) k s := rfl

/-- DEC rr is the load of the pair with its predecessor (42_alu16.md R252). -/
theorem opDecPair_eq_opLdPair (s : State) (p : Pair) (k : Nat) :
    opDecPair p k s = opLdPair p (s.pair p - 1#16) k s := rfl

/-- Settles O13: ADD HL writes HL and the flags, Z with the value it had; INC and DEC write the pair alone. -/
theorem pairArithmetic : Obligations.PairArithmetic := by
  refine ⟨fun p s => ⟨encode_addHlOf p, ?_⟩, fun p s => ⟨encode_incPairOf p, encode_decPairOf p, ?_, ?_⟩⟩
  · rw [exec_addHlOf]
    exact setHl_setFlags_done s (s.hl + s.pair p) s.flagZ false
      (half16 s.hl (s.pair p)) (carry16 s.hl (s.pair p)) 8
  · rw [exec_incPairOf, opIncPair_eq_opLdPair]
    exact opLdPair_writes s p (s.pair p + 1#16) 8
  · rw [exec_decPairOf, opDecPair_eq_opLdPair]
    exact opLdPair_writes s p (s.pair p - 1#16) 8

/-! ### SP plus a signed byte -/

/-- An instruction that writes SP and the flags, and nothing else. -/
theorem setSp_setFlags_done (s : State) (v : Word) (z n h c : Bool) (k : Nat) :
    ∃ t, ((s.setSp v).setFlags z n h c).done k = .next t ∧ t.cpu.sp = v ∧ FlagsAre z n h c t ∧
      t.cpu.pc = s.cpu.pc ∧ RegsOnly [] k s t := by
  have regs : RegsSameBut [] s (((s.setSp v).setFlags z n h c).charge k) := fun q _ => by simp
  exact ⟨_, rfl, by simp, flagsAre_of_f (by simp), by simp,
    regsOnly_of regs (by simp [ControlSame]) (by simp [OutsideSame]) rfl⟩

/-- Settles O14: both write the sign-extended sum (`add_sext16`), and the flags of the raw byte. -/
theorem stackPointerOffset : Obligations.StackPointerOffset := by
  intro e s
  rw [← add_sext16]
  exact ⟨rfl, rfl,
    setSp_setFlags_done s (s.cpu.sp + sext16 e) false false (halfSp s.cpu.sp e) (carrySp s.cpu.sp e) 16,
    setHl_setFlags_done s (s.cpu.sp + sext16 e) false false (halfSp s.cpu.sp e) (carrySp s.cpu.sp e) 12⟩

end Sys2Proof.Machine
end

section
/-! PROOFS. Rotates, shifts and single bits: what each shared operation leaves in its operand and in F, and the
encodings of the rows it runs. -/

namespace Sys2Proof.Machine

open Sys2Proof Sys2Proof.Laws

/-! ### Rotates and shifts -/

theorem encode_rotOf (op : RotOp) (o : Opnd) :
    encode (.rotOf op o) = [0xCB#8, BitVec.ofNat 8 (8 * op.code + o.code)] := by
  cases o with
  | reg r => cases op <;> cases r <;> rfl
  | mem => cases op <;> rfl

/-- The model's rotate with the carry flag of a state is that of 43_rotate_shift_bit.md R270-R282 on numbers. -/
theorem rotResult_flagC (op : RotOp) (v : Byte) (s : State) : rotResult op v s.flagC = rotatedByte op v s :=
  rotResult_eq op v s.flagC

theorem opRotA_eq (s : State) (op : RotOp) (k : Nat) : opRotA op k s =
    ((s.setReg8 .a (rotatedByte op s.cpu.a s).1).setFlags false false false (rotatedByte op s.cpu.a s).2).done k := by
  simp only [opRotA, rotResult_flagC]

theorem opRot_reg_eq (s : State) (op : RotOp) (r : Reg8) (k : Nat) : opRot op (.reg r) k s =
    ((s.setReg8 r (rotatedByte op (s.reg8 r) s).1).setFlags (zeroM (rotatedByte op (s.reg8 r) s).1) false false
      (rotatedByte op (s.reg8 r) s).2).done k := by
  simp only [opRot, State.readOpnd, State.writeOpnd, rotResult_flagC]

theorem opRot_mem_eq (s : State) (op : RotOp) (k : Nat) : opRot op .mem k s =
    (((s.afterRead s.hl).memWrite s.hl (rotatedByte op (s.peek s.hl) s).1).setFlags
      (zeroM (rotatedByte op (s.peek s.hl) s).1) false false (rotatedByte op (s.peek s.hl) s).2).done k := by
  simp only [opRot, State.readOpnd, State.memRead, State.writeOpnd, State.afterRead_hl, rotResult_flagC]

/-- An accumulator rotate clears Z whatever the result (43_rotate_shift_bit.md R270). -/
theorem opRotA_rotates (s : State) (op : RotOp) (k : Nat) :
    ∃ t, opRotA op k s = .next t ∧ t.cpu.a = (rotatedByte op s.cpu.a s).1 ∧
      FlagsAre false false false (rotatedByte op s.cpu.a s).2 t ∧
      t.cpu.sp = s.cpu.sp ∧ t.cpu.pc = s.cpu.pc ∧ RegsOnly [.a] k s t := by
  rw [opRotA_eq]
  exact setReg8_setFlags_done s .a _ _ _ _ _ k

/-- Settles O15: the accumulator rotates row by row, the CB rotates by their operand. -/
theorem rotatesAndShifts : Obligations.RotatesAndShifts := by
  refine ⟨fun i op b s h => ?_, fun op s => ⟨encode_rotOf op, fun r => ?_, ?_⟩⟩
  · simp only [List.mem_cons, Prod.mk.injEq, List.not_mem_nil, or_false] at h
    rcases h with ⟨rfl, rfl, rfl⟩ | ⟨rfl, rfl, rfl⟩ | ⟨rfl, rfl, rfl⟩ | ⟨rfl, rfl, rfl⟩
    · exact ⟨rfl, opRotA_rotates s .rlc 4⟩
    · exact ⟨rfl, opRotA_rotates s .rrc 4⟩
    · exact ⟨rfl, opRotA_rotates s .rl 4⟩
    · exact ⟨rfl, opRotA_rotates s .rr 4⟩
  · rw [exec_rotOf, opRot_reg_eq]
    generalize rotatedByte op (s.reg8 r) s = y
    obtain ⟨t, e, value, flags, frame⟩ := setReg8_setFlags_done s r y.1 (zeroM y.1) false false y.2 8
    rw [← value] at flags
    exact ⟨t, e, value, flags, frame⟩
  · rw [exec_rotOf, opRot_mem_eq]
    exact rewrite_setFlags_done s s.hl _ _ _ _ _ 16

/-! ### BIT -/

theorem encode_bitOf (b : Fin 8) (o : Opnd) :
    encode (.bitOf b o) = [0xCB#8, BitVec.ofNat 8 (0x40 + 8 * b.val + o.code)] := by
  cases o with
  | reg r => fin_cases b <;> cases r <;> rfl
  | mem => fin_cases b <;> rfl

/-- BIT's Z on numbers: the bit is the parity of the byte shifted down to it (43_rotate_shift_bit.md R283). -/
theorem not_getLsbD_eq (v : Byte) (k : Nat) : (!v.getLsbD k) = decide (v.toNat / 2 ^ k % 2 = 0) := by
  rw [BitVec.getLsbD, Nat.testBit_eq_decide_div_mod_eq, ← decide_not, decide_eq_decide]
  exact Nat.mod_two_ne_one

theorem opBit_reg_eq (s : State) (b : Fin 8) (r : Reg8) (k : Nat) : opBit b (.reg r) k s =
    (s.setFlags (decide ((s.reg8 r).toNat / 2 ^ b.val % 2 = 0)) false true s.flagC).done k := by
  simp only [opBit, State.readOpnd, not_getLsbD_eq]

theorem opBit_mem_eq (s : State) (b : Fin 8) (k : Nat) : opBit b .mem k s =
    ((s.afterRead s.hl).setFlags (decide ((s.peek s.hl).toNat / 2 ^ b.val % 2 = 0)) false true s.flagC).done k := by
  simp only [opBit, State.readOpnd, State.memRead, not_getLsbD_eq]

/-- An instruction that reads a byte and writes the flags, and nothing else. -/
theorem read_setFlags_done (s : State) (a : Word) (z n h c : Bool) (k : Nat) :
    ∃ t, ((s.afterRead a).setFlags z n h c).done k = .next t ∧ FlagsAre z n h c t ∧
      t.cpu.sp = s.cpu.sp ∧ t.cpu.pc = s.cpu.pc ∧ ReadsOnly a [] k s t := by
  have regs : RegsSameBut [] s (((s.afterRead a).setFlags z n h c).charge k) := fun q _ => by simp
  exact ⟨_, rfl, flagsAre_of_f (by simp), by simp, by simp,
    readsOnly_of regs (by simp [ControlSame]) (by simp [OutsideSame]) rfl⟩

/-! ### RES and SET -/

theorem encode_resOf (b : Fin 8) (o : Opnd) :
    encode (.resOf b o) = [0xCB#8, BitVec.ofNat 8 (0x80 + 8 * b.val + o.code)] := by
  cases o with
  | reg r => fin_cases b <;> cases r <;> rfl
  | mem => fin_cases b <;> rfl

theorem encode_setOf (b : Fin 8) (o : Opnd) :
    encode (.setOf b o) = [0xCB#8, BitVec.ofNat 8 (0xC0 + 8 * b.val + o.code)] := by
  cases o with
  | reg r => fin_cases b <;> cases r <;> rfl
  | mem => fin_cases b <;> rfl

/-- The mask has its own bit and no other. -/
theorem bitMask_getLsbD (b : Fin 8) (k : Nat) : (bitMask b).getLsbD k = decide (k = b.val) := by
  show (BitVec.twoPow 8 b.val).getLsbD k = _
  simp [BitVec.getLsbD_twoPow, b.isLt, eq_comm]

/-- RES clears its bit (43_rotate_shift_bit.md R284). -/
theorem withBit_false_and_not_bitMask (b : Fin 8) (v : Byte) : withBit b false v (v &&& ~~~(bitMask b)) := by
  intro k hk
  rw [BitVec.getLsbD_and, BitVec.getLsbD_not, bitMask_getLsbD]
  by_cases own : k = b.val <;> simp [own, hk]

/-- SET sets its bit (43_rotate_shift_bit.md R285). -/
theorem withBit_true_or_bitMask (b : Fin 8) (v : Byte) : withBit b true v (v ||| bitMask b) := by
  intro k _
  rw [BitVec.getLsbD_or, bitMask_getLsbD]
  by_cases own : k = b.val <;> simp [own]

theorem opRes_mem_eq (s : State) (b : Fin 8) (k : Nat) : opRes b .mem k s =
    ((s.afterRead s.hl).memWrite s.hl (s.peek s.hl &&& ~~~(bitMask b))).done k := by
  simp only [opRes, State.readOpnd, State.memRead, State.writeOpnd, State.afterRead_hl]

theorem opSet_mem_eq (s : State) (b : Fin 8) (k : Nat) : opSet b .mem k s =
    ((s.afterRead s.hl).memWrite s.hl (s.peek s.hl ||| bitMask b)).done k := by
  simp only [opSet, State.readOpnd, State.memRead, State.writeOpnd, State.afterRead_hl]

/-- An instruction that writes one bit of a register and nothing else. -/
theorem setReg8_withBit_done {s : State} {r : Reg8} {b : Fin 8} {x : Bool} {v : Byte}
    (bit : withBit b x (s.reg8 r) v) (k : Nat) :
    ∃ t, (s.setReg8 r v).done k = .next t ∧ withBit b x (s.reg8 r) (t.reg8 r) ∧
      t.cpu.f = s.cpu.f ∧ t.cpu.sp = s.cpu.sp ∧ t.cpu.pc = s.cpu.pc ∧ RegsOnly [r] k s t := by
  obtain ⟨t, e, value, frame⟩ := setReg8_done s r v k
  exact ⟨t, e, by rwa [value], frame⟩

/-- An instruction that writes one bit of a byte read, to the same address, and nothing else. -/
theorem rewrite_withBit_done {s : State} {a : Word} {b : Fin 8} {x : Bool} {v : Byte}
    (bit : withBit b x (s.peek a) v) (k : Nat) :
    ∃ t w, ((s.afterRead a).memWrite a v).done k = .next t ∧ withBit b x (s.peek a) w ∧ RewritesByte a w k s t ∧
      t.cpu.f = s.cpu.f ∧ t.cpu.sp = s.cpu.sp ∧ t.cpu.pc = s.cpu.pc := by
  have regs : RegsSameBut [] s (((s.afterRead a).memWrite a v).charge k) := fun q _ => by simp
  exact ⟨_, v, rfl, bit, rewritesByte_of regs (by simp [ControlSame]) (.refl _) rfl, by simp, by simp, by simp⟩

/-- Settles O16: BIT writes the flags alone, RES and SET the byte with the one bit changed. -/
theorem bitOperations : Obligations.BitOperations := by
  refine ⟨fun b s => ⟨encode_bitOf b, fun r => ?_, ?_⟩,
    fun b s => ⟨fun o => ⟨encode_resOf b o, encode_setOf b o⟩, fun i x h => ?_⟩⟩
  · rw [exec_bitOf, opBit_reg_eq]
    exact setFlags_done s _ _ _ _ 8
  · rw [exec_bitOf, opBit_mem_eq]
    exact read_setFlags_done s s.hl _ _ _ _ 12
  · simp only [List.mem_cons, Prod.mk.injEq, List.not_mem_nil, or_false] at h
    rcases h with ⟨rfl, rfl⟩ | ⟨rfl, rfl⟩
    · refine ⟨fun r => ?_, ?_⟩
      · rw [exec_resOf]
        exact setReg8_withBit_done (withBit_false_and_not_bitMask b _) 8
      · rw [exec_resOf, opRes_mem_eq]
        exact rewrite_withBit_done (withBit_false_and_not_bitMask b _) 16
    · refine ⟨fun r => ?_, ?_⟩
      · rw [exec_setOf]
        exact setReg8_withBit_done (withBit_true_or_bitMask b _) 8
      · rw [exec_setOf, opSet_mem_eq]
        exact rewrite_withBit_done (withBit_true_or_bitMask b _) 16

end Sys2Proof.Machine
end

section
/-! PROOFS. Control transfer: what each shared operation leaves in PC, on the stack and in `ime`, and the encodings
of the rows it runs. -/

namespace Sys2Proof.Machine

open Sys2Proof Sys2Proof.Laws

/-! ### Jumps -/

theorem encode_jpIfOf (cc : Cond) (nn : Word) :
    encode (.jpIfOf cc nn) = [BitVec.ofNat 8 (0xC2 + 8 * cc.code), loByte nn, hiByte nn] := by
  cases cc <;> rfl

theorem encode_jrIfOf (cc : Cond) (e : Byte) :
    encode (.jrIfOf cc e) = [BitVec.ofNat 8 (0x20 + 8 * cc.code), e] := by
  cases cc <;> rfl

/-- A jump writes PC and nothing else. -/
theorem opJp_jumps (s : State) (target : Word) (n : Nat) :
    ∃ t, opJp target n s = .next t ∧ t.cpu.pc = target ∧ t.cpu.f = s.cpu.f ∧ t.cpu.sp = s.cpu.sp ∧
      RegsOnly [] n s t := by
  have regs : RegsSameBut [] s ((s.setPc target).charge n) := fun q _ => by simp
  exact ⟨_, rfl, by simp, by simp, by simp,
    regsOnly_of regs (by simp [ControlSame]) (by simp [OutsideSame]) rfl⟩

/-- A conditional jump is the jump to its target, or to the next instruction when the condition fails
(44_control.md R302). -/
theorem opJpCond_eq_opJp (s : State) (cc : Cond) (nn : Word) (taken notTaken : Nat) :
    opJpCond cc nn taken notTaken s =
      opJp (if condHolds cc s then nn else s.cpu.pc) (if condHolds cc s then taken else notTaken) s := by
  rw [opJpCond, cond_eq]
  split
  · rfl
  · rfl

/-- A relative jump goes to the signed sum of the next address and its byte (44_control.md R304). -/
theorem opJr_eq_opJp (s : State) (e : Byte) (n : Nat) :
    opJr e n s = opJp (BitVec.ofInt 16 (s.cpu.pc.toNat + e.toInt)) n s := by
  rw [← add_sext16]
  rfl

theorem opJrCond_eq_opJpCond (s : State) (cc : Cond) (e : Byte) (taken notTaken : Nat) :
    opJrCond cc e taken notTaken s =
      opJpCond cc (BitVec.ofInt 16 (s.cpu.pc.toNat + e.toInt)) taken notTaken s := by
  rw [← add_sext16]
  rfl

/-- Settles O17: each of the five is a jump to its target. -/
theorem jumps : Obligations.Jumps := by
  refine fun s cc nn e => ⟨rfl, encode_jpIfOf cc nn, rfl, rfl, encode_jrIfOf cc e, fun i target cycles h => ?_⟩
  have asJump : exec i s = opJp target cycles s := by
    simp only [List.mem_cons, Prod.mk.injEq, List.not_mem_nil, or_false] at h
    rcases h with ⟨rfl, rfl, rfl⟩ | ⟨rfl, rfl, rfl⟩ | ⟨rfl, rfl, rfl⟩ | ⟨rfl, rfl, rfl⟩ | ⟨rfl, rfl, rfl⟩
    · rfl
    · rfl
    · exact opJr_eq_opJp s e 12
    · rw [exec_jpIfOf, opJpCond_eq_opJp]
    · rw [exec_jrIfOf, opJrCond_eq_opJpCond, opJpCond_eq_opJp]
  rw [asJump]
  exact opJp_jumps s target cycles

/-! ### Calls and restarts -/

theorem encode_callIfOf (cc : Cond) (nn : Word) :
    encode (.callIfOf cc nn) = [BitVec.ofNat 8 (0xC4 + 8 * cc.code), loByte nn, hiByte nn] := by
  cases cc <;> rfl

theorem encode_rstOf (y : Fin 8) : encode (.rstOf y) = [BitVec.ofNat 8 (0xC7 + 8 * y.val)] := by
  fin_cases y <;> rfl

/-- A transfer that is not taken charges its cycles and nothing else. -/
theorem done_chargesOnly (s : State) (n : Nat) : ∃ t, s.done n = .next t ∧ t.cpu = s.cpu ∧ RegsOnly [] n s t := by
  have regs : RegsSameBut [] s (s.charge n) := fun q _ => by simp
  exact ⟨_, rfl, rfl, regsOnly_of regs (by simp [ControlSame]) (.refl _) rfl⟩

/-- A call pushes the next address and jumps. -/
theorem opCall_pushes (s : State) (target : Word) (n : Nat) :
    ∃ t, opCall target n s = .next t ∧ PushesWord s.cpu.pc s t ∧ t.cpu.pc = target ∧
      ControlSame s t ∧ t.cycles = n := by
  obtain ⟨-, control⟩ := push16_pc_control s s.cpu.pc
  exact ⟨_, rfl, (pushesWord_push16 s s.cpu.pc).congr (by simp) rfl rfl (.refl _), rfl, control, rfl⟩

/-- A restart is the call of its target (44_control.md R312). -/
theorem opRst_eq_opCall (s : State) (target : Word) (n : Nat) : opRst target n s = opCall target n s := rfl

theorem opCallCond_of_holds {s : State} {cc : Cond} (h : condHolds cc s = true) (nn : Word) (taken notTaken : Nat) :
    opCallCond cc nn taken notTaken s = opCall nn taken s := by
  rw [opCallCond, cond_eq, if_pos h, opCall]

theorem opCallCond_of_fails {s : State} {cc : Cond} (h : condHolds cc s = false) (nn : Word) (taken notTaken : Nat) :
    opCallCond cc nn taken notTaken s = s.done notTaken := by
  rw [opCallCond, cond_eq, if_neg (by simp [h])]

/-- Settles O18: CALL, the conditional CALL on either side, and RST. -/
theorem callsAndRestarts : Obligations.CallsAndRestarts := by
  refine fun s cc nn y => ⟨rfl, encode_callIfOf cc nn, encode_rstOf y, opCall_pushes s nn 24,
    fun holds => ?_, fun fails => ?_, ?_⟩
  · rw [exec_callIfOf, opCallCond_of_holds holds]
    exact opCall_pushes s nn 24
  · rw [exec_callIfOf, opCallCond_of_fails fails]
    exact done_chargesOnly s 12
  · rw [exec_rstOf, opRst_eq_opCall]
    exact opCall_pushes s (BitVec.ofNat 16 (8 * y.val)) 16

/-! ### Returns -/

theorem encode_retIfOf (cc : Cond) : encode (.retIfOf cc) = [BitVec.ofNat 8 (0xC0 + 8 * cc.code)] := by
  cases cc <;> rfl

/-- Popping PC as the two reads, SP and PC. -/
theorem popPc_eq (s : State) : s.popPc = (afterPop s).setPc (poppedWord s) := by
  simp only [State.popPc, pop16_eq, afterPop]

@[simp] theorem State.popPc_cpu (s : State) :
    s.popPc.cpu = { s.cpu with sp := s.cpu.sp + 2#16, pc := poppedWord s } := by
  simp [popPc_eq, State.setPc]

theorem popsWord_popPc (s : State) : PopsWord [] s s.popPc := by
  rw [popPc_eq]
  exact popsWord_of_pop16 (fun q _ => by simp) (by simp) (.refl _)

/-- The frame of a pop does not speak of PC, the control flags or the cycles. -/
theorem PopsWord.congr {rs : List Reg8} {s t t' : State} (h : PopsWord rs s t)
    (hr : ∀ r, t'.reg8 r = t.reg8 r) (hsp : t'.cpu.sp = t.cpu.sp) (ho : OutsideSame t t') : PopsWord rs s t' := by
  obtain ⟨regs, sp, ⟨u1, u2, u3, u4, u5, u6⟩, -⟩ := h
  obtain ⟨o1, o2, o3, o4, o5, o6⟩ := ho
  exact popsWord_of_pop16 (fun r hr' => (hr r).trans (regs r hr')) (hsp.trans sp)
    ⟨o1.trans u1, o2.trans u2, o3.trans u3, o4.trans u4, o5.trans u5, o6.trans u6⟩

/-- RET pops PC and leaves the control flags alone. -/
theorem opRet_pops (s : State) (n : Nat) :
    ∃ t, opRet n s = .next t ∧ t.cpu.pc = poppedWord s ∧ PopsWord [] s t ∧ t.cpu.f = s.cpu.f ∧
      ControlSame s t ∧ t.cycles = n := by
  have pops := (popsWord_popPc s).congr (t' := s.popPc.charge n) (by simp) rfl (.refl _)
  exact ⟨_, rfl, by simp, pops, by simp, by simp [ControlSame], rfl⟩

@[simp] theorem State.returnFromInterrupt_cpu (s : State) :
    s.returnFromInterrupt.cpu = { s.cpu with ime := true, sp := s.cpu.sp + 2#16, pc := poppedWord s } := by
  simp [State.returnFromInterrupt, State.setIme]

/-- RETI pops PC and sets `ime` (44_control.md R311). -/
theorem opReti_pops (s : State) (n : Nat) :
    ∃ t, opReti n s = .next t ∧ t.cpu.pc = poppedWord s ∧ PopsWord [] s t ∧ t.cpu.f = s.cpu.f ∧
      t.cpu.ime = true ∧ t.cpu.halted = s.cpu.halted ∧ t.cpu.stopReason = s.cpu.stopReason ∧ t.cycles = n := by
  have pops := (popsWord_popPc s).congr (t' := s.returnFromInterrupt.charge n)
    (by simp [State.returnFromInterrupt]) rfl (.refl _)
  exact ⟨_, rfl, by simp, pops, by simp, by simp, by simp, by simp, rfl⟩

theorem opRetCond_of_holds {s : State} {cc : Cond} (h : condHolds cc s = true) (taken notTaken : Nat) :
    opRetCond cc taken notTaken s = opRet taken s := by
  rw [opRetCond, cond_eq, if_pos h, opRet]

theorem opRetCond_of_fails {s : State} {cc : Cond} (h : condHolds cc s = false) (taken notTaken : Nat) :
    opRetCond cc taken notTaken s = s.done notTaken := by
  rw [opRetCond, cond_eq, if_neg (by simp [h])]

/-- Settles O19: RET, the conditional RET on either side, and RETI. -/
theorem returns : Obligations.Returns := by
  refine fun s cc => ⟨rfl, encode_retIfOf cc, rfl, opRet_pops s 16,
    fun holds => ?_, fun fails => ?_, opReti_pops s 16⟩
  · rw [exec_retIfOf, opRetCond_of_holds holds]
    exact opRet_pops s 20
  · rw [exec_retIfOf, opRetCond_of_fails fails]
    exact done_chargesOnly s 8

end Sys2Proof.Machine
end

section
/-! PROOFS. CPU control: the instructions that write the CPU alone, the fatal ones, the halted step, and the
prefixed row against the decoder. -/

namespace Sys2Proof.Machine

open Sys2Proof Sys2Proof.Laws

/-! ### NOP, DI and EI -/

/-- An instruction that writes the CPU and nothing else. -/
theorem cpu_done (s : State) (c : Cpu) (n : Nat) :
    ∃ t, ({ s with cpu := c } : State).done n = .next t ∧ t.cpu = c ∧ OutsideSame s t ∧ MemorySame s t ∧
      t.cycles = n := by
  have outside : OutsideSame s (({ s with cpu := c } : State).charge n) := .refl s
  exact ⟨_, rfl, rfl, outside, outside.memorySame, rfl⟩

/-- Settles O20: each of the three writes the CPU alone. -/
theorem nopDiEi : Obligations.NopDiEi := fun s =>
  ⟨rfl, rfl, rfl, cpu_done s s.cpu 4, cpu_done s { s.cpu with ime := false } 4,
    cpu_done s { s.cpu with ime := true } 4⟩

/-! ### HALT and the halted step -/

/-- A halted CPU that accepts interrupts waits (60_exceptions.md R352). -/
theorem cpuStep_of_waiting {s : State} (halted : s.cpu.halted = true) (ime : s.cpu.ime = true) :
    s.cpuStep = .next (s.charge 4) := by
  rw [State.cpuStep, if_pos halted, if_pos ime]
  rfl

/-- A halted CPU that accepts none is locked up (60_exceptions.md R352). -/
theorem cpuStep_of_lockedUp {s : State} (halted : s.cpu.halted = true) (ime : s.cpu.ime = false) :
    s.cpuStep = .next (s.raiseFatal .haltLockup) := by
  rw [State.cpuStep, if_pos halted, if_neg (by simp [ime])]

/-- The machine's step of a CPU that is not stopped finishes the CPU step. -/
theorem step_of_cpuStep {s t : State} (running : s.cpu.stopReason = none) (e : s.cpuStep = .next t) :
    step s = .next t.finishIteration := by
  simp only [step, running, State.iterate, e]

/-- After a fatal outcome an iteration ends. -/
theorem finishIteration_raiseFatal (s : State) (r : StopReason) :
    (s.raiseFatal r).finishIteration = s.raiseFatal r := rfl

/-- After a CPU step that is not fatal come the sound advance and the two checks. -/
theorem finishIteration_of_running {s : State} (running : s.cpu.stopReason = none) :
    s.finishIteration = (((s.runFor s.cycles).vblankCheck s.cycles).1.timerCheck s.cycles).1 := by
  rw [State.finishIteration, if_neg (by simp [running]), State.afterCpuStep_eq]

/-- Settles O21: HALT writes `halted` alone; `ime` decides what the halted step does. -/
theorem haltAndHaltedSteps : Obligations.HaltAndHaltedSteps := by
  refine fun s => ⟨rfl, cpu_done s { s.cpu with halted := true } 4, fun running halted ime => ?_,
    fun running halted ime => ⟨cpuStep_of_waiting halted ime, ?_⟩⟩
  · rw [step_of_cpuStep running (cpuStep_of_lockedUp halted ime), finishIteration_raiseFatal]
    rfl
  · rw [step_of_cpuStep running (cpuStep_of_waiting halted ime),
      finishIteration_of_running (s := s.charge 4) running]
    rfl

/-! ### STOP and the illegal opcodes -/

theorem encode_illegalRows : ∀ r ∈ illegalRows, encode r.2 = [r.1] := by decide

/-- The diagnostic and the fatal outcome store nothing. -/
theorem memorySame_raiseIllegal (s : State) (op : Byte) (addr : Word) : MemorySame s (s.raiseIllegal op addr) :=
  fun b _ => peek_congr rfl rfl rfl b

/-- Settles O22: STOP writes `stop_reason` alone, an illegal opcode also its diagnostic. -/
theorem stopAndIllegalAreFatal : Obligations.StopAndIllegalAreFatal := by
  refine fun s => ⟨rfl, rfl, cpu_done s { s.cpu with stopReason := some .stopInstruction } 0,
    fun r hr => ⟨encode_illegalRows r hr, ?_⟩⟩
  exact ⟨_, exec_illegal r hr s, rfl, rfl, rfl, rfl, rfl, rfl, rfl,
    memorySame_raiseIllegal s r.1 (s.cpu.pc - 1#16), rfl⟩

/-! ### The prefixed row -/

/-- The instruction the fields of a sub-opcode name (30_encoding.md R120). -/
def cbInstrOf (op2 : Byte) : Instr :=
  let y : Fin 8 := Fin.ofNat 8 (op2.toNat / 8)
  let o := opndOf (op2.toNat % 8)
  match op2.toNat / 64 with
  | 0 => .rotOf (rotOpOf y.val) o
  | 1 => .bitOf y o
  | 2 => .resOf y o
  | _ => .setOf y o

/-- The map of R127, cell by cell, holds the instruction its sub-opcode's fields name. -/
theorem decodeCb_eq_cbInstrOf : ∀ op2, decodeCb op2 = some (cbInstrOf op2) := by
  apply all_bytes
  intro k
  fin_cases k <;> rfl

theorem cbCycles_eq_opndCycles (o : Opnd) : cbCycles o = opndCycles 8 16 o := by cases o <;> rfl

theorem cbBitCycles_eq_opndCycles (o : Opnd) : cbBitCycles o = opndCycles 8 12 o := by cases o <;> rfl

/-- The prefixed row runs the instruction its sub-opcode's fields name, group by group. -/
theorem exec_cb_prefix_eq (op2 : Byte) (s : State) : exec (.cb_prefix op2) s = exec (cbInstrOf op2) s := by
  change opCb op2 s = _
  simp only [opCb, cbInstrOf, cbCycles_eq_opndCycles, cbBitCycles_eq_opndCycles]
  match op2.toNat / 64 with
  | 0 => exact (exec_rotOf _ _ s).symm
  | 1 => exact (exec_bitOf _ _ s).symm
  | 2 => exact (exec_resOf _ _ s).symm
  | _ + 3 => exact (exec_setOf _ _ s).symm

/-- Settles O23: the decoder and the prefixed row name the same instruction, and every instruction completes. -/
theorem cbPrefixRunsSubOpcode : Obligations.CbPrefixRunsSubOpcode := by
  intro op2 s
  have decoded : decode [0xCB#8, op2] = .ok (cbInstrOf op2, []) := by
    simp only [decode, if_true, decodeCb_eq_cbInstrOf]
  obtain ⟨-, completes⟩ := everyInstructionCompletes (.cb_prefix op2) s
  obtain ⟨t, e, -⟩ := completes (by simp)
  exact ⟨cbInstrOf op2, decoded, (encode_of_decode decoded).1, exec_cb_prefix_eq op2 s, t, e⟩

end Sys2Proof.Machine
end

section
/-! PROOFS. Interrupts, the countdowns and the two steps: delivery and its undoing, each check as an equation, what a
step does around the instruction, and the loop of the platform step. -/

namespace Sys2Proof.Machine

open Sys2Proof

/-! ### The step, whole -/

/-- States that agree step to states that agree, with equal cycles, or are both refused: the CPU step, then the rest
of the iteration unless it was fatal. -/
theorem step_alike {s s' : State} (h : Alike s s') (running : s.cpu.stopReason = none) :
    OutAlike (step s) (step s') := by
  have running' : s'.cpu.stopReason = none := by rw [h.cpu, running]
  rcases cpuStep_alike h with ⟨t, t', e, e', agree, cycles⟩ | ⟨r, e, e'⟩
  · rw [step_of_cpuStep running e, step_of_cpuStep running' e']
    refine .inl ⟨_, _, rfl, rfl, ?_⟩
    simp only [State.finishIteration, agree.cpu, cycles]
    split
    · exact ⟨agree, cycles⟩
    · exact ⟨agree.afterCpuStep _, by rw [afterCpuStep_cycles, afterCpuStep_cycles, cycles]⟩
  · simp only [step, running, running', State.iterate, e, e']
    exact .inr ⟨r, rfl, rfl⟩

/-- Settles O59: the relation is `Alike`, and a step that ends in a next state started from a running CPU. -/
theorem cpuBlindToHostAndSound : Obligations.CpuBlindToHostAndSound := by
  intro s s' t cpu bus timers regs session draws daaMode h
  have agree : Alike s s' := ⟨cpu, bus, timers, regs, session, draws, daaMode⟩
  rcases step_alike agree (step_cases h).1 with ⟨u, u', e, e', k, cycles⟩ | ⟨r, e, -⟩
  · cases h.symm.trans e
    exact ⟨u', e', k.cpu, k.bus, k.timers, k.regs, k.sessionCycles, k.draws, k.daaMode, cycles⟩
  · cases h.symm.trans e

/-- The iteration after a CPU step that goes on leaves the CPU running. -/
theorem afterCpuStep_running {s u : State} {n : Nat} (running : s.cpu.stopReason = none) (m : Micro s u) (c : Nat) :
    ((u.charge n).afterCpuStep c).cpu.stopReason = none := by
  rw [afterCpuStep_stopReason]
  exact m.stopReason.trans running

/-- A step that ends fatally has read and reported at most, and then raised the fatal outcome. -/
theorem step_fatal {s t : State} (h : step s = .next t) (fatal : t.cpu.stopReason.isSome = true) :
    ∃ u r, FatalSame s u ∧ t = u.raiseFatal r := by
  obtain ⟨running, ⟨u, n, m, -, rfl⟩ | ⟨u, r, -, same, rfl⟩⟩ := step_cases h
  · rw [afterCpuStep_running running m] at fatal
    cases fatal
  · exact ⟨u, r, same, rfl⟩

/-- The fatal outcome writes `stop_reason` and the cycle count, which the frame does not speak of. -/
theorem FatalSame.raiseFatal {s u : State} (h : FatalSame s u) (r : StopReason) : FatalSame s (u.raiseFatal r) := by
  obtain ⟨regs, f, sp, ime, halted, bus, timers, snd, session, host, memory⟩ := h
  have regs' : RegsSameBut [] s (u.raiseFatal r) := fun q hq => by
    rw [← regs q hq]
    cases q <;> rfl
  exact ⟨regs', f, sp, ime, halted, bus, timers, snd, session, host,
    memory.trans fun b _ => peek_congr rfl rfl rfl b⟩

/-- Settles O31: the sentinel of a stopped machine, the frame of a fatal step, and that a stopped machine has none. -/
theorem fatalIsPreciseAndFinal : Obligations.FatalIsPreciseAndFinal := by
  refine ⟨fun s r stopped => step_stopped stopped, fun s t _ h fatal => ?_, fun s t h => (step_cases h).1⟩
  obtain ⟨u, r, same, rfl⟩ := step_fatal h fatal
  exact ⟨same.raiseFatal r, rfl⟩

/-- A CPU step that is refused ends the step. -/
theorem step_of_cpuStep_refused {s : State} {r : Refusal} (running : s.cpu.stopReason = none)
    (e : s.cpuStep = .refused r) : step s = .refused r := by
  simp only [step, running, State.iterate, e]

/-- The CPU step of a CPU that is not halted is `exec` of the instruction its fetched bytes decode to. -/
theorem cpuStep_of_decoded {s : State} {i : Instr} {rest : List Byte} (awake : s.cpu.halted = false)
    (h : decode s.fetchInstr.1 = .ok (i, rest)) : s.cpuStep = exec i s.fetchInstr.2 := by
  rw [State.cpuStep, if_neg (by simp [awake]), State.fetchExecute]
  simp only [h]

/-- Settles O29: the CPU step is `exec`, and the rest of the iteration follows unless it was fatal or refused. -/
theorem stepRunsDecoded : Obligations.StepRunsDecoded := by
  intro s i rest running awake decoded
  rw [← cpuStep_of_decoded awake decoded]
  refine ⟨fun r => step_of_cpuStep_refused running, fun t e => ?_⟩
  rw [step_of_cpuStep running e]
  refine ⟨fun fatal => ?_, fun goesOn => ?_⟩
  · rw [State.finishIteration, if_pos fatal]
  · rw [finishIteration_of_running goesOn]

/-! ### Delivery -/

theorem push16_cpu (s : State) (v : Word) : (s.push16 v).cpu = { s.cpu with sp := s.cpu.sp - 2#16 } := by
  simp [push16_eq, State.setSp]

@[simp] theorem State.deliverInterrupt_cpu (s : State) (vector : Word) : (s.deliverInterrupt vector).cpu =
    { s.cpu with halted := false, ime := false, sp := s.cpu.sp - 2#16, pc := vector } := by
  rw [deliverInterrupt_eq]

/-- Delivery pushes PC; beside the push it writes PC and the control flags alone (60_exceptions.md R363). -/
theorem pushesWord_deliverInterrupt (s : State) (vector : Word) :
    PushesWord s.cpu.pc s (s.deliverInterrupt vector) := by
  refine (pushesWord_push16 s s.cpu.pc).congr (fun r => ?_) ?_ ?_ ?_
  · cases r <;> simp [State.reg8, push16_cpu]
  · simp [push16_cpu]
  · simp [push16_cpu]
  · rw [deliverInterrupt_eq]
    exact .refl _

theorem deliverInterrupt_cycles (s : State) (vector : Word) : (s.deliverInterrupt vector).cycles = s.cycles := by
  simp [deliverInterrupt_eq, push16_eq]

/-- Settles O37: the CPU after delivery, field by field, and the frame of its push. -/
theorem deliverInterrupt : Obligations.DeliverInterrupt := by
  intro s vector
  exact ⟨by simp, by simp, by simp, by simp, pushesWord_deliverInterrupt s vector,
    deliverInterrupt_cycles s vector, rfl⟩

/-! ### A stack in RAM -/

theorem IsRam.not_counter {a : Word} (h : IsRam a) : ¬ IsCounter a := by
  rw [isCounter_iff]
  unfold IsRam at h
  omega

theorem IsRam.not_timerReg {a : Word} (h : IsRam a) : ¬ IsTimerReg a := by
  rw [isTimerReg_iff]
  unfold IsRam at h
  omega

theorem IsRam.not_bankSelect {a : Word} (h : IsRam a) : ¬ IsBankSelect a := by
  unfold IsRam at h
  unfold IsBankSelect
  omega

/-- The two stack bytes of a push are in RAM. -/
def StackInRam (s : State) : Prop := ∀ a ∈ pushAddresses s, IsRam a

theorem stackInRam_iff (s : State) : StackInRam s ↔ IsRam (s.cpu.sp - 1#16) ∧ IsRam (s.cpu.sp - 2#16) := by
  simp only [StackInRam, pushAddresses, List.forall_mem_cons, List.not_mem_nil, false_implies, implies_true, and_true]

/-- What was pushed to RAM is what a pop reads next. -/
theorem PushesWord.poppedWord_eq {v : Word} {s t : State} (h : PushesWord v s t) (ram : StackInRam s) :
    poppedWord t = v := by
  obtain ⟨hi, lo⟩ := (stackInRam_iff s).mp ram
  obtain ⟨-, -, sp, -, -, high, low, -⟩ := h
  have next : s.cpu.sp - 2#16 + 1#16 = s.cpu.sp - 1#16 := by bv_omega
  rw [poppedWord, sp, next, memorySame_afterRead t _ _ hi.not_counter, high (.inl hi), low (.inl lo),
    wordOf_bytes]

/-- A push to RAM moves no bank, so off the stack every address reads as before but the free draws. -/
theorem PushesWord.peek_off_stack {v : Word} {s t : State} (h : PushesWord v s t) (ram : StackInRam s) {b : Word}
    (off : b ∉ pushAddresses s) (hb : ¬ IsCounter b) : t.peek b = s.peek b := by
  obtain ⟨-, -, -, -, ⟨same, -⟩, -⟩ := h
  exact same b off hb fun ⟨a, ha, select⟩ => absurd select (ram a ha).not_bankSelect

/-- A push to RAM reprograms no timer. -/
theorem PushesWord.timers {v : Word} {s t : State} (h : PushesWord v s t) (ram : StackInRam s) :
    t.timers = s.timers := by
  obtain ⟨-, -, -, -, ⟨-, -, -, -, timers, -⟩, -⟩ := h
  exact timers fun a ha => (ram a ha).not_timerReg

/-- Settles O38: RETI pops the PC the delivery pushed, and neither stores anything off the stack. -/
theorem deliverThenReti : Obligations.DeliverThenReti := by
  intro s vector hi lo
  have ram : StackInRam s := (stackInRam_iff s).mpr ⟨hi, lo⟩
  have pushes := pushesWord_deliverInterrupt s vector
  have back : s.cpu.sp - 2#16 + 2#16 = s.cpu.sp := by bv_omega
  refine ⟨(s.deliverInterrupt vector).returnFromInterrupt.charge 16, rfl, ?_, fun b off hb => ?_⟩
  · simp [pushes.poppedWord_eq ram, back]
  · have popped : (s.deliverInterrupt vector).popPc.peek b = (s.deliverInterrupt vector).peek b := by
      obtain ⟨-, -, -, same, -⟩ := popsWord_popPc (s.deliverInterrupt vector)
      exact same b hb
    exact popped.trans (pushes.peek_off_stack ram off hb)

/-! ### The countdowns -/

theorem vblankCheck_of_left {s : State} {c : Nat} (h : 0 < s.timers.vblankCtr - c) :
    (s.vblankCheck c).1 = { s with timers := { s.timers with vblankCtr := s.timers.vblankCtr - c } } := by
  simp only [State.vblankCheck, if_neg (Int.not_le.mpr h)]

theorem vblankCheck_of_expired {s : State} {c : Nat} (h : s.timers.vblankCtr - c ≤ 0) :
    let u := { s with timers := { s.timers with vblankCtr := s.timers.vblankCtr - c + 70224 } }
    (s.vblankCheck c).1 = if s.delivers 0 then u.deliverInterrupt 0x40#16 else u := by
  simp only [State.vblankCheck, if_pos h, State.fire_eq]
  rfl

theorem timerCheck_of_off {s : State} (h : s.timers.timerPeriod = 0) (c : Nat) : (s.timerCheck c).1 = s := by
  rw [State.timerCheck, if_neg (by omega)]

theorem timerCheck_of_left {s : State} {c : Nat} (on : 0 < s.timers.timerPeriod) (h : 0 < s.timers.timerCtr - c) :
    (s.timerCheck c).1 = { s with timers := { s.timers with timerCtr := s.timers.timerCtr - c } } := by
  simp only [State.timerCheck, if_pos on, if_neg (Int.not_le.mpr h)]

theorem timerCheck_of_expired {s : State} {c : Nat} (on : 0 < s.timers.timerPeriod) (h : s.timers.timerCtr - c ≤ 0) :
    let u := { s with timers := { s.timers with timerCtr := s.timers.timerCtr - c + s.timers.timerPeriod } }
    (s.timerCheck c).1 = if s.delivers 2 then u.deliverInterrupt 0x48#16 else u := by
  simp only [State.timerCheck, if_pos on, if_pos h, State.fire_eq]
  rfl

/-- Settles O39: one equation for each clause. -/
theorem countdowns : Obligations.Countdowns := fun _ c =>
  ⟨vblankCheck_of_left, vblankCheck_of_expired, fun off => timerCheck_of_off off c, timerCheck_of_left,
    timerCheck_of_expired⟩

/-- With `ime` 0 an expiry of the timer reloads the countdown and is discarded (60_exceptions.md R364). -/
theorem timerCheck_of_masked {s : State} {c : Nat} (masked : s.cpu.ime = false) (on : 0 < s.timers.timerPeriod)
    (h : s.timers.timerCtr - c ≤ 0) : (s.timerCheck c).1 =
      { s with timers := { s.timers with timerCtr := s.timers.timerCtr - c + s.timers.timerPeriod } } := by
  rw [timerCheck_of_expired on h, if_neg (by simp [State.delivers, masked])]

/-- Settles O40: the delivery of vblank clears `ime` and, with its stack in RAM, leaves the timer as it was. -/
theorem bothExpireVblankWins : Obligations.BothExpireVblankWins := by
  intro s c ime enabled vblankDue hi lo on timerDue
  let u := { s with timers := { s.timers with vblankCtr := s.timers.vblankCtr - c + 70224 } }
  have delivered : (s.vblankCheck c).1 = u.deliverInterrupt 0x40#16 := by
    rw [vblankCheck_of_expired (by omega), if_pos (by simp [State.delivers, ime, enabled])]
  have timers : (u.deliverInterrupt 0x40#16).timers = u.timers :=
    (pushesWord_deliverInterrupt u 0x40#16).timers ((stackInRam_iff u).mpr ⟨hi, lo⟩)
  have due : (u.deliverInterrupt 0x40#16).timers.timerCtr - c ≤ 0 := by
    rw [timers]
    show s.timers.timerCtr - c ≤ 0
    omega
  rw [delivered, timerCheck_of_masked (by simp) (by rw [timers]; exact on) due, timers]
  simp [u]

/-! ### The platform step -/

/-- A step charges the session nothing where it is fatal, and else the cycles of one instruction. -/
theorem step_sessionCycles {s t : State} (h : step s = .next t) : s.sessionCycles ≤ t.sessionCycles ∧
    (t.cpu.stopReason = none → ∃ n, CycleCount n ∧ t.sessionCycles = s.sessionCycles + n) := by
  obtain ⟨-, ⟨u, n, m, hn, rfl⟩ | ⟨u, r, m, -, rfl⟩⟩ := step_cases h
  · have charged : ((u.charge n).afterCpuStep n).sessionCycles = s.sessionCycles + n := by
      rw [afterCpuStep_session, ← m.sessionCycles]
      rfl
    exact ⟨by omega, fun _ => ⟨n, hn, charged⟩⟩
  · have kept : (u.raiseFatal r).sessionCycles = s.sessionCycles := m.sessionCycles
    exact ⟨kept.ge, fun running => by cases running⟩

theorem Reaches.sessionCycles_le {s u : State} (h : Reaches s u) : s.sessionCycles ≤ u.sessionCycles := by
  induction h with
  | refl => exact le_rfl
  | step _ e ih => exact ih.trans (step_sessionCycles e).1

/-- A step changes no input of the host's, so not `DAA_MODE`. -/
theorem step_daaMode {s t : State} (h : step s = .next t) : t.host.daaMode = s.host.daaMode := by
  obtain ⟨-, -, host⟩ := step_inputsSame h
  rw [host]

/-- `u` has the target's cycles: `s` itself, or the running state after the first step from `s` that gets there. -/
inductive FirstAtTarget (start target : Nat) (s : State) : State → Prop where
  | here (h : target ≤ s.sessionCycles - start) : FirstAtTarget start target s s
  | after {t u : State} (reached : Reaches s t) (below : t.sessionCycles - start < target)
      (last : Machine.step t = .next u) (running : u.cpu.stopReason = none) (h : target ≤ u.sessionCycles - start) :
      FirstAtTarget start target s u

/-- How the loop of the platform step ends (60_exceptions.md R380). -/
inductive LoopEnds (start target : Nat) (s : State) : PlatformOut → Prop where
  | finished {u : State} (h : FirstAtTarget start target s u) : LoopEnds start target s (finishPlatform start u)
  | stopped {u : State} (h : Reaches s u) (stop : u.cpu.stopReason.isSome = true) :
      LoopEnds start target s (.next ⟨u, -1⟩)
  | refused (running : s.cpu.stopReason = none) (mode : s.host.daaMode = .refuse) :
      LoopEnds start target s (.refused .daaRefused)

/-- The end of the loop after one more step below the target. -/
theorem LoopEnds.head {start target : Nat} {s t : State} {o : PlatformOut} (e : step s = .next t)
    (below : s.sessionCycles - start < target) (running : t.cpu.stopReason = none) (h : LoopEnds start target t o) :
    LoopEnds start target s o := by
  cases h with
  | finished first =>
    cases first with
    | here h => exact .finished (.after .refl below e running h)
    | after reached below' last running' h => exact .finished (.after (reached.head e) below' last running' h)
  | stopped reached stop => exact .stopped (reached.head e) stop
  | refused _ mode => exact .refused (step_cases e).1 ((step_daaMode e).symm.trans mode)

/-- The loop's fuel suffices: every step that goes on charges a cycle, and the fuel covers what is left. -/
theorem platformLoop_ends (start target : Nat) : ∀ (fuel : Nat) (s : State),
    start ≤ s.sessionCycles → target ≤ s.sessionCycles - start + fuel →
    LoopEnds start target s (platformLoop start target fuel s) := by
  intro fuel
  induction fuel with
  | zero => exact fun s _ enough => .finished (.here enough)
  | succ fuel ih =>
    intro s started enough
    rw [platformLoop]
    by_cases reached : target ≤ s.sessionCycles - start
    · rw [if_pos reached]
      exact .finished (.here reached)
    · rw [if_neg reached]
      cases hs : s.cpu.stopReason with
      | some r =>
        rw [step_stopped hs]
        exact .stopped .refl (by rw [hs]; rfl)
      | none =>
        rcases step_running hs with ⟨u, n, m, -, -, e⟩ | ⟨u, r, -, -, e⟩ | ⟨mode, e⟩
        · have running := afterCpuStep_running (n := n) hs m n
          obtain ⟨k, hk, charged⟩ := (step_sessionCycles e).2 running
          simp only [e, running, Option.isSome_none, Bool.false_eq_true, if_false]
          exact (ih _ (by omega) (by omega)).head e (by omega) running
        · rw [e]
          exact .stopped (Reaches.refl.step e) rfl
        · rw [e]
          exact .refused hs mode

theorem platformStep_of_configured {s : State} {cfg : Nat × Nat} (h : s.host.resampler = some cfg) (ms : Nat) :
    platformStep ms s = platformLoop s.sessionCycles (targetCycles ms) (targetCycles ms) s := by
  rw [platformStep, h]

theorem platformStep_ends {s : State} {cfg : Nat × Nat} (h : s.host.resampler = some cfg) (ms : Nat) :
    LoopEnds s.sessionCycles (targetCycles ms) s (platformStep ms s) := by
  rw [platformStep_of_configured h]
  exact platformLoop_ends _ _ _ s le_rfl (by omega)

theorem targetCycles_pos {ms : Nat} (h : 0 < ms) : 0 < targetCycles ms := by
  unfold targetCycles Config.clk
  omega

/-- With `ms = 0` the loop runs no step. -/
theorem platformStep_zero {s : State} {cfg : Nat × Nat} (h : s.host.resampler = some cfg) :
    platformStep 0 s = .next ⟨refreshSnapshot s, 0⟩ := by
  rw [platformStep_of_configured h, show targetCycles 0 = 0 from rfl, platformLoop, finishPlatform, Nat.sub_self]
  rfl

/-- A stopped CPU answers at once, and is left as it is. -/
theorem platformStep_of_stopped {s : State} {cfg : Nat × Nat} (h : s.host.resampler = some cfg) {ms : Nat}
    (pos : 0 < ms) (stopped : s.cpu.stopReason.isSome = true) : platformStep ms s = .next ⟨s, -1⟩ := by
  obtain ⟨r, hr⟩ := Option.isSome_iff_exists.mp stopped
  obtain ⟨fuel, hf⟩ := Nat.exists_eq_succ_of_ne_zero (targetCycles_pos pos).ne'
  rw [platformStep_of_configured h, hf, platformLoop, Nat.sub_self, if_neg (by omega), step_stopped hr]

/-- The two cases in which no step runs: no time to fill, and a CPU that is stopped already. -/
theorem platformStep_without_steps {s : State} {cfg : Nat × Nat} (h : s.host.resampler = some cfg) {ms : Nat}
    {r : PlatformResult} (e : platformStep ms s = .next r) :
    (ms = 0 → r.result = 0 ∧ r.state = refreshSnapshot s) ∧
    (s.cpu.stopReason.isSome = true → 0 < ms → r.result = -1 ∧ r.state = s) := by
  refine ⟨?_, fun stopped pos => ?_⟩
  · rintro rfl
    cases e.symm.trans (platformStep_zero h)
    exact ⟨rfl, rfl⟩
  · cases e.symm.trans (platformStep_of_stopped h pos stopped)
    exact ⟨rfl, rfl⟩

theorem pos_of_platformStep_refused {s : State} {cfg : Nat × Nat} (h : s.host.resampler = some cfg) {ms : Nat}
    {r : Refusal} (e : platformStep ms s = .refused r) : 0 < ms := by
  refine Nat.pos_of_ne_zero ?_
  rintro rfl
  cases e.symm.trans (platformStep_zero h)

theorem FirstAtTarget.reached {start target : Nat} {s u : State} (h : FirstAtTarget start target s u) :
    Reaches s u ∧ target ≤ u.sessionCycles - start := by
  cases h with
  | here h => exact ⟨.refl, h⟩
  | after reached _ last _ h => exact ⟨reached.step last, h⟩

/-- A run to a target above zero takes a step; the last one starts below the target, so it
overshoots by less than its own cycles. -/
theorem FirstAtTarget.last_step {target : Nat} {s u : State} (h : FirstAtTarget s.sessionCycles target s u)
    (pos : 0 < target) : u.cpu.stopReason = none ∧ u.sessionCycles - s.sessionCycles < target + 24 ∧
      ∃ t, Reaches s t ∧ step t = .next u ∧ t.sessionCycles - s.sessionCycles < target := by
  cases h with
  | here h => omega
  | after reached below last running h =>
    obtain ⟨n, hn, charged⟩ := (step_sessionCycles last).2 running
    exact ⟨running, by omega, _, reached, last, below⟩

/-- Settles O60: the loop's three ends, and the two cases in which it runs no step. -/
theorem platformStepMeetsTarget : Obligations.PlatformStepMeetsTarget := by
  refine ⟨fun s => rfl, fun ms s => ⟨fun unconfigured => ?_, fun cfg configured => ?_⟩⟩
  · rw [platformStep, unconfigured]
  · have ends := platformStep_ends configured ms
    generalize answer : platformStep ms s = o at ends ⊢
    cases ends with
    | refused running mode => exact .inl ⟨pos_of_platformStep_refused configured answer, running, mode, rfl⟩
    | stopped reached stop =>
      exact .inr ⟨_, rfl, fun _ => ⟨reached, stop⟩, fun h => absurd rfl h,
        platformStep_without_steps configured answer⟩
    | @finished u first =>
      obtain ⟨reached, atTarget⟩ := first.reached
      refine .inr ⟨_, rfl, fun h => ?_, fun _ => ⟨u, reached, rfl, rfl, reached.sessionCycles_le,
        Int.ofNat_le.mpr atTarget, fun pos => ?_⟩, platformStep_without_steps configured answer⟩
      · change ((u.sessionCycles - s.sessionCycles : Nat) : Int) = -1 at h
        omega
      · obtain ⟨running, overshoot, last⟩ := first.last_step (targetCycles_pos pos)
        exact ⟨running, Int.ofNat_lt.mpr overshoot, last⟩

end Sys2Proof.Machine
end

section
/-! PROOFS. The sound unit: its ranges and the level balance under a step, what a cycle, an injection and a flush do,
and the registers, the tick, the dividers and the outputs, rule by rule. -/

namespace Sys2Proof.Machine

open Sys2Proof

/-! ### The unit under a step -/

/-- A property of the sound unit that register writes keep, and cycles under a host side with the inputs of `s`, is
kept by a step. -/
theorem step_keeps_snd {P : Sound → Prop} {s t : State} (h : step s = .next t)
    (write : ∀ u a v, P u → P (Sound.write u a v))
    (cycle : ∀ u host, host.impulseTable = s.host.impulseTable → host.resampler = s.host.resampler →
      P u → P (u.cycle host).1) (start : P s.snd) : P t.snd := by
  obtain ⟨-, ⟨u, n, m, -, rfl⟩ | ⟨u, r, m, -, rfl⟩⟩ := step_cases h
  · have charged : Micro s (u.charge n) := m.trans (.charge n rfl)
    refine (afterCpuStep_keeps (P := fun x => P x.snd ∧ x.host.impulseTable = s.host.impulseTable ∧
        x.host.resampler = s.host.resampler) (fun x ⟨kept, table, cfg⟩ => ⟨?_, table, cfg⟩)
      (fun x y m ⟨kept, table, cfg⟩ => ⟨m.snd write kept, m.params.2.1.trans table, m.params.2.2.trans cfg⟩)
      (fun _ _ k => k) (fun _ _ k => k) ⟨charged.snd write start, charged.params.2⟩).1
    exact advance_keeps (fun y => cycle y x.host table cfg) n x.snd x.host.events kept
  · exact m.snd write start

/-- Settles O56: a register write and a cycle keep the ranges, and a step does nothing else to the sound unit. -/
theorem stepKeepsSoundInvariant : Obligations.StepKeepsSoundInvariant := fun _ _ i h =>
  step_keeps_snd h (fun _ a v i => i.write a v) (fun _ host _ _ i => i.cycle host) i

/-- A register write leaves the resampler alone. -/
theorem Sound.write_resampler (s : Sound) (a : Nat) (v : Byte) : ∃ regs ch1 sweep ch2 ch3 ch4,
    s.write a v =
      { s with regs := regs, ch1 := ch1, sweep := sweep, ch2 := ch2, ch3 := ch3, ch4 := ch4 } := by
  unfold Sound.write Sound.writeAction
  split <;> exact ⟨_, _, _, _, _, _, rfl⟩

/-- Settles O57: a register write leaves the resampler alone, and a cycle conserves the level. -/
theorem stepConservesLevel : Obligations.StepConservesLevel := by
  intro s t rate frames configured kernel fit level h
  obtain ⟨-, -, host⟩ := step_inputsSame h
  have kept : BuffersFit frames t.snd ∧ LevelConserved t.snd := by
    refine step_keeps_snd (P := fun u => BuffersFit frames u ∧ LevelConserved u) h (fun u a v k => ?_)
      (fun u host table cfg k => ?_) ⟨fit, level⟩
    · obtain ⟨_, _, _, _, _, _, e⟩ := u.write_resampler a v
      rw [e]
      exact k
    · exact cycle_conserves (cfg.trans configured) (table ▸ kernel) k.1 k.2
  rw [host]
  exact ⟨configured, kernel, kept⟩

/-! ### The advance -/

/-- Settles O30: the cycle that an advance by one more cycle ends with. -/
theorem advanceRunsCycles : Obligations.AdvanceRunsCycles := by
  refine ⟨fun s c => rfl, fun s => rfl, fun s c => ?_⟩
  simp only [State.runFor, Sound.advance_succ]
  rfl

/-! ### The mix -/

/-- A channel's part of a side: its level where it is routed there and not muted (61_sound.md R470). -/
theorem gated_eq (routed muted : Bool) (level : Int) :
    gated routed muted level = if routed = true ∧ muted = false then level else 0 := by
  simp [gated]

/-- Gating keeps a level's bound. -/
theorem gated_bound (routed muted : Bool) {level : Int} (h : LevelBound level) :
    LevelBound (gated routed muted level) := by
  unfold gated
  split
  · exact h
  · decide

/-- A sum of four levels, scaled by a volume of at most one, fits 16 bits. -/
theorem scaled_bound {a b c d volume : Int} (ha : LevelBound a) (hb : LevelBound b) (hc : LevelBound c)
    (hd : LevelBound d) (hv : 0 ≤ volume ∧ volume ≤ Config.masterVolMax) :
    -30720 ≤ scaled (a + b + c + d) volume ∧ scaled (a + b + c + d) volume ≤ 30720 := by
  obtain ⟨v0, v1⟩ := hv
  unfold LevelBound Config.masterVolMax at *
  have above : (a + b + c + d) * volume ≤ 60 * 65536 := by nlinarith only [ha, hb, hc, hd, v0, v1]
  have below : -(60 * 65536) ≤ (a + b + c + d) * volume := by nlinarith only [ha, hb, hc, hd, v0, v1]
  unfold scaled Config.masterVolMax
  have lo := Int.tdiv_le_tdiv (by decide : (0 : Int) < 65536)
    (by linarith only [below] : -30720 * 65536 ≤ (a + b + c + d) * 512 * volume)
  have hi := Int.tdiv_le_tdiv (by decide : (0 : Int) < 65536)
    (by linarith only [above] : (a + b + c + d) * 512 * volume ≤ 30720 * 65536)
  exact ⟨lo, hi⟩

/-- Settles O50: the formula by definition, the bound from the bounds of the levels and of the master volume. -/
theorem mixFitsSixteenBits : Obligations.MixFitsSixteenBits := by
  refine ⟨fun s h => ?_, fun s h i => ?_⟩
  · simp only [← gated_eq]
    exact ⟨rfl, rfl⟩
  · have level3 : LevelBound s.ch3.voice.level := ⟨by have := i.level3; omega, i.level3.2⟩
    have side := fun r1 r2 r3 r4 => scaled_bound (gated_bound r1 h.mute1 i.level1) (gated_bound r2 h.mute2 i.level2)
      (gated_bound r3 h.mute3 level3) (gated_bound r4 h.mute4 i.level4) i.masterVolume
    obtain ⟨l0, l1⟩ := side s.ch1.voice.left s.ch2.voice.left s.ch3.voice.left s.ch4.voice.left
    obtain ⟨r0, r1⟩ := side s.ch1.voice.right s.ch2.voice.right s.ch3.voice.right s.ch4.voice.right
    exact ⟨l0, l1, r0, r1⟩

/-! ### The injection and the flush -/

/-- Where the taps fit, the entries from `i` up gain `d` times their taps, and the others keep their values. -/
theorem addTaps_entries (i : Nat) (d : Int) (taps buf : List Int) (h : i + taps.length ≤ buf.length) :
    (∀ k, (addTaps i d taps buf).getD (i + k) 0 = buf.getD (i + k) 0 + d * taps.getD k 0) ∧
    (∀ j, j < i ∨ i + taps.length ≤ j → (addTaps i d taps buf).getD j 0 = buf.getD j 0) := by
  refine ⟨fun k => ?_, fun j hj => ?_⟩
  · rw [addTaps_getD i d taps buf h, if_pos (by omega), Nat.add_sub_cancel_left]
  · rw [addTaps_getD i d taps buf h]
    split
    · rw [List.getD_eq_default taps 0 (by omega), Int.mul_zero, Int.add_zero]
    · rw [Int.add_zero]

/-- A position inside the buffer has its sample inside the buffer. -/
theorem sampleIndex_lt {pos frames : Nat} (h : pos < frames * Config.clk) : sampleIndex pos < frames :=
  Nat.div_lt_of_lt_mul (by rwa [Nat.mul_comm])

/-- Settles O52: the injected row has twelve taps that fit from the position's sample up. -/
theorem injectAddsKernelRow : Obligations.InjectAddsKernelRow := by
  refine ⟨kernelOk_impulseTable, fun s frames => rfl, fun s table frames dl dr kernel fit => ?_⟩
  obtain ⟨pos, lenL, lenR, -⟩ := fit
  obtain ⟨taps, unit⟩ := kernel.row (samplePhase_lt s.pos)
  have inside := sampleIndex_lt pos
  unfold Config.impulseTaps at lenL lenR
  obtain ⟨hitL, missL⟩ := addTaps_entries (sampleIndex s.pos) dl (impulseRow table (samplePhase s.pos)) s.impL
    (by omega)
  obtain ⟨hitR, missR⟩ := addTaps_entries (sampleIndex s.pos) dr (impulseRow table (samplePhase s.pos)) s.impR
    (by omega)
  rw [taps] at missL missR
  exact ⟨rfl, taps, unit, addTaps_length _ _ _ _, addTaps_length _ _ _ _, inside,
    fun k _ => ⟨hitL k, hitR k⟩, fun j hj => ⟨missL j hj, missR j hj⟩⟩

/-- The samples of one side of a filled buffer: running sums divided by 256 rounding down, saturated
(61_sound.md R493). -/
theorem integrate_take_getD (acc : Int) (buf : List Int) {frames j : Nat} (hj : j < frames)
    (h : frames ≤ buf.length) : (integrate acc (buf.take frames)).1.getD j 0 =
      max (-32768) (min ((acc + (buf.take (j + 1)).sum) / 256) 32767) := by
  rw [integrate_getD _ _ _ (by rw [List.length_take]; omega), pcmSample_eq, List.take_take,
    Nat.min_eq_left (by omega)]

/-- What `filled` holds, frame by frame. -/
theorem Sound.filled_frames (s : Sound) {frames : Nat} (hL : frames ≤ s.impL.length) (hR : frames ≤ s.impR.length) :
    (s.filled frames).length = 2 * frames ∧
    ∀ j, j < frames →
      (s.filled frames).getD (2 * j) 0 = max (-32768) (min ((s.accL + (s.impL.take (j + 1)).sum) / 256) 32767) ∧
      (s.filled frames).getD (2 * j + 1) 0 = max (-32768) (min ((s.accR + (s.impR.take (j + 1)).sum) / 256) 32767) := by
  have lenL : (integrate s.accL (s.impL.take frames)).1.length = frames := by
    rw [integrate_length, List.length_take, Nat.min_eq_left hL]
  have lenR : (integrate s.accR (s.impR.take frames)).1.length = frames := by
    rw [integrate_length, List.length_take, Nat.min_eq_left hR]
  obtain ⟨len, get⟩ := interleave_getD _ _ (lenL.trans lenR.symm)
  refine ⟨len.trans (by rw [lenL]), fun j hj => ⟨(get j).1.trans ?_, (get j).2.trans ?_⟩⟩
  · exact integrate_take_getD _ _ hj hL
  · exact integrate_take_getD _ _ hj hR

/-- With the level conserved and none of it in the carried entries, a side's sum ends at 256 times the last level. -/
theorem sum_take_of_conserved {acc last : Int} {buf : List Int} {frames : Nat}
    (conserved : acc + buf.sum = Config.impulseUnit * last) (tail : (buf.drop frames).sum = 0) :
    acc + (buf.take frames).sum = 256 * last := by
  have split := List.sum_take_add_sum_drop buf frames
  unfold Config.impulseUnit at conserved
  omega

/-- Settles O53: the frames of the filled buffer, the fields of `flush` by definition, and the level where it is
conserved. -/
theorem flushIntegrates : Obligations.FlushIntegrates := by
  intro s frames lenL lenR
  obtain ⟨len, get⟩ := s.filled_frames (frames := frames) (by omega) (by omega)
  refine ⟨len, get, integrate_acc _ _, integrate_acc _ _, rfl, rfl, rfl, rfl, rfl, fun h events => rfl,
    fun level tailL tailR => ?_⟩
  have sumL := sum_take_of_conserved level.1 tailL
  have sumR := sum_take_of_conserved level.2 tailR
  refine ⟨(integrate_acc _ _).trans sumL, (integrate_acc _ _).trans sumR, fun pos => ?_⟩
  have final := get (frames - 1) (by omega)
  rw [Nat.sub_add_cancel pos, sumL, sumR] at final
  simpa using final

/-! ### The cycle -/

/-- The countdown to the tick, in the range of R421. -/
theorem Sound.sequence_eq {s : Sound} (fade : Int) (due : 1 ≤ s.seqCtr) : s.sequence fade =
    if s.seqCtr = 1 then Sound.tick { s with seqCtr := 16384 } fade else { s with seqCtr := s.seqCtr - 1 } := by
  unfold Sound.sequence
  simp only [show s.seqCtr - 1 = 0 ↔ s.seqCtr = 1 by omega]
  rfl

/-- A configured resampler injects where the mix changed. -/
theorem Sound.emit_configured (s : Sound) {h : HostSide} {cfg : Nat × Nat} (configured : h.resampler = some cfg)
    (l r : Int) : s.emit h l r =
      { (if l ≠ s.lastL ∨ r ≠ s.lastR then s.inject h.impulseTable (l - s.lastL) (r - s.lastR) else s) with
        lastL := l, lastR := r } := by
  simp [Sound.emit, configured]

/-- Settles O51: the countdown, the dividers and levels by definition, then the injection and the position. -/
theorem soundCycleOrder : Obligations.SoundCycleOrder := by
  intro s h rate frames configured due
  rw [← Sound.sequence_eq h.masterFade due]
  unfold Sound.cycle Sound.cycleBody
  simp only [Sound.emit_configured _ configured, configured]
  rfl

/-! ### The registers -/

/-- Bit 7, which is the trigger bit and NR52's sound enable, is clear in a byte below 128 (61_sound.md R435, R441). -/
theorem bit7_clear {v : Byte} (h : v.toNat < 128) : v.getLsbD 7 = false := by
  rw [byte_bit7, decide_eq_false (Nat.not_le.mpr h)]

theorem bit7_set {v : Byte} (h : 128 ≤ v.toNat) : v.getLsbD 7 = true := by
  rw [byte_bit7, decide_eq_true h]

/-- The fields of NRx2's byte as numbers (61_sound.md R433). -/
theorem Voice.writeVolume_eq (c : Voice) (v : Byte) : c.writeVolume v = { c with volInit := v.toNat / 16 } := by
  rw [Voice.writeVolume, field_high]

theorem Envelope.write_eq (e : Envelope) (v : Byte) :
    e.write v = { e with dir := v.getLsbD 3, period := v.toNat % 8 } := by
  rw [Envelope.write, field_zero]
  rfl

/-- The frequency after NR14 or NR24 does not depend on the trigger. -/
theorem Pulse.writeControl_freq (p : Pulse) (v : Byte) : (p.writeControl v).freq = freqHigh p.freq v := by
  unfold Pulse.writeControl
  split <;> rfl

theorem Wave.writeControl_freq (p : Wave) (v : Byte) : (p.writeControl v).freq = freqHigh p.freq v := by
  unfold Wave.writeControl
  split <;> rfl

/-- The trigger reloads the sweep (61_sound.md R443). -/
theorem Sweep.writeControl_eq (w : Sweep) (v : Byte) :
    w.writeControl v = if 128 ≤ v.toNat then { w with ctr := w.period * 2 } else w := by
  unfold Sweep.writeControl
  rw [byte_bit7]
  simp only [decide_eq_true_eq]
  rfl

/-- The frequency, envelope and trigger registers of the four channels (61_sound.md R433-R435, R443). -/
theorem sharedRegisterWrites (s : Sound) (v : Byte) : SharedRegisterWrites s v := by
  refine ⟨fun p => ?envelope, fun p => ⟨freqLow_toNat _ _, rfl⟩,
    fun p => ⟨?pulseFreq, fun low => ?pulseClear, fun high => ?pulseSet⟩,
    rfl, rfl, ?nr14, rfl, rfl, rfl, ⟨freqLow_toNat _ _, rfl⟩,
    ⟨?waveFreq, fun low => ?waveClear, fun high => ?waveSet⟩, ?nr42, fun low => ?nr44Clear, fun high => ?nr44Set⟩
  case envelope => rw [Pulse.writeEnvelope, Voice.writeVolume_eq, Envelope.write_eq]
  case pulseFreq => rw [Pulse.writeControl_freq, freqHigh_toNat]
  case pulseClear =>
    rw [Pulse.writeControl, bit7_clear low]
    rfl
  case pulseSet =>
    rw [Pulse.writeControl, bit7_set high]
    rfl
  case nr14 =>
    rw [← Sweep.writeControl_eq]
    rfl
  case waveFreq => exact (congrArg BitVec.toNat (s.ch3.writeControl_freq v)).trans (freqHigh_toNat _ _)
  case waveClear =>
    simp only [Sound.writeAction, Wave.writeControl, bit7_clear low]
    rfl
  case waveSet =>
    simp only [Sound.writeAction, Wave.writeControl, bit7_set high]
    rfl
  case nr42 => simp only [Sound.writeAction, Noise.writeEnvelope, Voice.writeVolume_eq, Envelope.write_eq]
  case nr44Clear =>
    simp only [Sound.writeAction, Noise.writeControl, bit7_clear low]
    rfl
  case nr44Set =>
    simp only [Sound.writeAction, Noise.writeControl, bit7_set high]
    rfl

/-- Settles O43: the fields of the byte, and the registers that channels share. -/
theorem pulseRegisterWrites : Obligations.PulseRegisterWrites := by
  intro s v
  refine ⟨?sweep, fun p => ?duty, rfl, rfl, sharedRegisterWrites s v⟩
  case sweep =>
    simp only [Sound.writeAction, Sweep.write, field_zero]
    rfl
  case duty =>
    simp only [Pulse.writeDutyLen, ← duty_eq, ← dutyThreshold_eq, field_zero]
    rfl

/-- NR52 keeps a channel running where bit 7 is set, and silences it where bit 7 is clear (61_sound.md R441). -/
theorem Voice.power_set (c : Voice) {v : Byte} (h : 128 ≤ v.toNat) : c.power v = c := by
  rw [Voice.power, bit7_set h, Bool.and_true]

theorem Voice.power_clear (c : Voice) {v : Byte} (h : v.toNat < 128) : c.power v = { c with running := false } := by
  rw [Voice.power, bit7_clear h, Bool.and_false]

/-- NR50, the unused addresses and the wave RAM have no action (61_sound.md R430). -/
theorem Sound.writeAction_none (s : Sound) {a : Nat} (v : Byte)
    (h : a ∈ [0x15, 0x1F, 0x24] ∨ (0x27 ≤ a ∧ a ≤ 0x3F)) : s.writeAction a v = s := by
  simp only [List.mem_cons, List.not_mem_nil, or_false] at h
  unfold Sound.writeAction
  split
  case h_21 => rfl
  all_goals omega

/-- A sample of the wave table is a nibble, the high one first (61_sound.md R442). -/
theorem waveSample_eq (regs : Memory) (i : Nat) : waveSample regs i =
    if i % 2 = 0 then (Memory.read regs (0x30 + i / 2)).toNat / 16
    else (Memory.read regs (0x30 + i / 2)).toNat % 16 := by
  simp only [waveSample, field_high, field_zero]
  rfl

/-- Settles O44: register by register; the output of channel 3 reads its enable, code and wave RAM as they stand. -/
theorem waveNoiseRegisterWrites : Obligations.WaveNoiseRegisterWrites := by
  intro s v
  refine ⟨rfl, rfl, rfl, ?nr41, ?nr43, sharedRegisterWrites s v, rfl, fun high => ?nr52Set, fun low => ?nr52Clear,
    fun a h => s.writeAction_none v h, fun p regs => ⟨fun off => ?_, fun running on => ?_⟩,
    fun m a h => peek_memWrite_same m v (.inr (.inr (.inl h)))⟩
  case nr41 =>
    simp only [Sound.writeAction, Noise.writeLen, field_zero]
    rfl
  case nr43 =>
    simp only [Sound.writeAction, Noise.writePoly, field_high, field_zero, Nat.shiftLeft_eq]
    rfl
  case nr52Set => simp only [Sound.writeAction, Voice.power_set _ high]
  case nr52Clear => simp only [Sound.writeAction, Voice.power_clear _ low]
  · rw [Wave.output, if_pos (.inr (.inl off))]
  · simp [Wave.output, running, on, waveSample_eq]

/-! ### The tick -/

/-- The length step goes by the length rule (61_sound.md R451). -/
theorem Voice.lengthStep_rule (c : Voice) : LengthRule c c.lengthStep := by
  refine ⟨fun on one => ?_, fun on many => ?_, fun off => ?_⟩
  · simp [Voice.lengthStep, on, one]
  · rw [Voice.lengthStep, if_pos ⟨on, by omega⟩, if_neg (by omega)]
  · rw [Voice.lengthStep, if_neg]
    rintro ⟨on, pos⟩
    rcases off with off | off
    · simp [off] at on
    · omega

/-- The envelope step moves the counter and the volume as R452 says. -/
theorem envelopeStep_rule (c : Voice) (e : Envelope) :
    EnvelopeRule e e.step c.volume (c.envelopeStep e).volume := by
  refine ⟨fun off => ?_, fun on many => ?_, fun on due => ?_⟩
  · simp [Envelope.step, Voice.envelopeStep, off]
  · have notDue : ¬ e.ctr - 1 = 0 := by omega
    simp [Envelope.step, Voice.envelopeStep, on, notDue]
  · have due : e.ctr - 1 = 0 := by omega
    refine ⟨by simp [Envelope.step, on, due], ?_⟩
    rw [Voice.envelopeStep, if_pos ⟨on, due⟩]
    split <;> rfl

/-- The envelope step changes the volume alone. -/
theorem Voice.envelopeStep_eq (c : Voice) (e : Envelope) :
    c.envelopeStep e = { c with volume := (c.envelopeStep e).volume } := by
  unfold Voice.envelopeStep
  split
  · split <;> rfl
  · rfl

/-- A channel with an envelope over one tick: the length rule, then the envelope rule on what it left. -/
theorem Voice.tick_rule (c : Voice) (e : Envelope) : ∃ c', LengthRule c c' ∧
    EnvelopeRule e e.step c'.volume (c.lengthStep.envelopeStep e).volume ∧
    c.lengthStep.envelopeStep e = { c' with volume := (c.lengthStep.envelopeStep e).volume } :=
  ⟨c.lengthStep, c.lengthStep_rule, envelopeStep_rule _ e, Voice.envelopeStep_eq _ e⟩

/-- A sweep step that is not due leaves channel 1 alone (61_sound.md R453). -/
theorem Pulse.sweepStep_not_due (p : Pulse) {w : Sweep} (h : w.period = 0 ∨ 1 < w.ctr) : p.sweepStep w = p := by
  rw [Pulse.sweepStep, if_neg (by omega)]

/-- A sweep step that is due moves the divider where the shift is not zero and headroom remains. -/
theorem Pulse.sweepStep_due (p : Pulse) {w : Sweep} (on : 0 < w.period) (due : w.ctr ≤ 1) :
    let d := p.voice.divTc / 2 ^ w.shift
    let n := if w.dir then p.voice.divTc + d else p.voice.divTc - d
    p.sweepStep w =
      { p with voice := { p.voice with divTc := if 0 < w.shift ∧ n ≤ 2048 then n else p.voice.divTc } } := by
  intro d n
  have due : w.ctr - 1 = 0 := by omega
  by_cases shift : 0 < w.shift
  · simp only [Pulse.sweepStep, on, due, shift, true_and, and_self, if_true]
    rfl
  · simp only [Pulse.sweepStep, shift, false_and, and_false, if_false]

/-- A tick leaves a pulse channel's divider to the sweep. -/
theorem Pulse.tick_divTc (p : Pulse) : p.tick.voice.divTc = p.voice.divTc :=
  (Voice.envelopeStep_divTc _ _).trans (Voice.lengthStep_divTc _)

/-- Settles O45: each channel by the length and envelope rules, then the sweep by whether it is due. -/
theorem tickRules : Obligations.TickRules := by
  intro s fade
  refine ⟨fun p => ?pulse, rfl, s.ch3.voice.lengthStep_rule, rfl, ?noise, fun off => ?sweepOff,
    fun on many => ?sweepWaits, fun on due => ?sweepDue, rfl, rfl⟩
  case pulse =>
    obtain ⟨c, length, envelope, e⟩ := p.voice.tick_rule p.env
    exact ⟨c, length, envelope, congrArg (fun x => { p with voice := x, env := p.env.step }) e⟩
  case noise =>
    obtain ⟨c, length, envelope, e⟩ := s.ch4.voice.tick_rule s.ch4.env
    exact ⟨c, length, envelope, congrArg (fun x => { s.ch4 with voice := x, env := s.ch4.env.step }) e⟩
  case sweepOff => exact ⟨by simp [Sound.tick, Sweep.step, off], Pulse.sweepStep_not_due _ (.inl off)⟩
  case sweepWaits =>
    have notDue : ¬ s.sweep.ctr - 1 = 0 := by omega
    exact ⟨by simp [Sound.tick, Sweep.step, on, notDue], Pulse.sweepStep_not_due _ (.inr many)⟩
  case sweepDue =>
    have zero : s.sweep.ctr - 1 = 0 := by omega
    refine ⟨by simp [Sound.tick, Sweep.step, on, zero], ?_⟩
    rw [← Pulse.tick_divTc]
    exact Pulse.sweepStep_due _ on due

/-! ### The dividers -/

/-- A pulse channel's divider at a count of 1 and above (61_sound.md R447). -/
theorem Pulse.divide_rule (p : Pulse) :
    (1 < p.voice.divCtr → p.divide = { p with voice := { p.voice with divCtr := p.voice.divCtr - 1 } }) ∧
    (p.voice.divCtr = 1 → p.divide = { p with
      voice := { p.voice with divCtr := 4 * p.voice.divTc }, dutyPos := (p.dutyPos + 1) % 8 }) :=
  ⟨fun many => if_neg (by omega), fun one => if_pos (by omega)⟩

/-- Settles O46: each divider's test on its count. -/
theorem dividerRules : Obligations.DividerRules := by
  intro s _ _ _ _
  refine ⟨fun p q channel => ?_, fun many => if_neg (by omega), fun one => if_pos (by omega),
    fun many => if_neg (by omega), fun one => if_pos (by omega), rfl⟩
  simp only [List.mem_cons, Prod.mk.injEq, List.not_mem_nil, or_false] at channel
  obtain ⟨rfl, rfl⟩ | ⟨rfl, rfl⟩ := channel
  · exact s.ch1.divide_rule
  · exact s.ch2.divide_rule

/-! ### The outputs -/

/-- Settles O49: by whether the channel runs. -/
theorem channelOutputs : Obligations.ChannelOutputs := by
  intro s
  refine ⟨fun p => ?pulse, ?wave, fun p => ?noise⟩
  case pulse =>
    unfold Pulse.output signedVolume
    cases p.voice.running <;> simp
  case wave => simp only [Wave.output, waveSample_eq]
  case noise =>
    unfold Noise.output signedVolume noiseBit
    cases p.voice.running <;> cases p.lfsr.getLsbD 14 <;> rfl

end Sys2Proof.Machine
end

section
/-! PROOFS. The LFSR: one step bit by bit, and the periods of its two modes. -/

namespace Sys2Proof.Machine

open Sys2Proof

/-! ### One LFSR step -/

/-- The word with bit `i` alone, where that bit is to be set. -/
theorem getLsbD_if_bit (b : Bool) (i : Nat) {k : Nat} (hk : k < 15) :
    (if b then 1#15 <<< i else 0#15).getLsbD k = (b && decide (k = i)) := by
  cases b
  · simp
  · rw [Bool.true_and, if_pos rfl, BitVec.getLsbD_shiftLeft, BitVec.getLsbD_one, Bool.eq_iff_iff]
    simp only [Bool.and_eq_true, Bool.not_eq_true', decide_eq_true_eq, decide_eq_false_iff_not]
    omega

/-- One LFSR step bit by bit: the XNOR of bits 14 and 13 enters at bit 0, in narrow mode at bit 8 too, and every other
bit moves up (61_sound.md R456). -/
theorem lfsrNext_getLsbD (narrow : Bool) (x : BitVec 15) {k : Nat} (hk : k < 15) :
    (lfsrNext narrow x).getLsbD k =
      if k = 0 ∨ (narrow = true ∧ k = 8) then !(x.getLsbD 14 ^^ x.getLsbD 13) else x.getLsbD (k - 1) := by
  unfold lfsrNext
  generalize (!(x.getLsbD 14 ^^ x.getLsbD 13)) = fb
  have at0 := getLsbD_if_bit fb 0 hk
  have at8 := getLsbD_if_bit fb 8 hk
  have mask := getLsbD_if_bit true 8 hk
  have moved : (x <<< 1).getLsbD k = (decide (k ≠ 0) && x.getLsbD (k - 1)) := by
    rw [BitVec.getLsbD_shiftLeft]
    simp [hk]
  simp only [BitVec.shiftLeft_zero, if_true] at at0 mask
  cases narrow
  · simp only [Bool.false_eq_true, if_false, BitVec.getLsbD_or, at0, moved]
    by_cases zero : k = 0 <;> simp [zero]
  · simp only [if_true, BitVec.getLsbD_or, BitVec.getLsbD_and, BitVec.getLsbD_not, at0, at8, mask, moved]
    by_cases zero : k = 0 <;> by_cases eight : k = 8 <;> simp [zero, eight, hk]

/-- Settles O47: bit 0, then every other bit. -/
theorem lfsrStep : Obligations.LfsrStep := by
  intro narrow x
  refine ⟨lfsrNext_getLsbD narrow x (by decide), fun k low high => ?_, rfl⟩
  rw [lfsrNext_getLsbD narrow x high]
  simp [Nat.ne_of_gt low]

/-! ### The LFSR's period

The wide step is affine over GF(2), so a power of it is known from the images of 0 and of the 15 single bits: the
powers of two come by squaring, and the period from its being a divisor of 32767 = 7 * 31 * 151. -/

/-- A map that keeps the XORs of three words. -/
def IsAffine (f : BitVec 15 → BitVec 15) : Prop := ∀ x y z, f (x ^^^ y ^^^ z) = f x ^^^ f y ^^^ f z

theorem IsAffine.comp {f g : BitVec 15 → BitVec 15} (hf : IsAffine f) (hg : IsAffine g) : IsAffine (f ∘ g) :=
  fun x y z => (congrArg f (hg x y z)).trans (hf _ _ _)

/-- The step of the wide mode is affine: each of its bits is a bit or an XNOR of two. -/
theorem isAffine_lfsrNext : IsAffine (lfsrNext false) := by
  intro x y z
  apply BitVec.eq_of_getLsbD_eq
  intro k hk
  have xnor : ∀ a b c d e f : Bool,
      (!((a ^^ c ^^ e) ^^ (b ^^ d ^^ f))) = ((!(a ^^ b)) ^^ (!(c ^^ d)) ^^ (!(e ^^ f))) := by decide
  simp only [BitVec.getLsbD_xor, lfsrNext_getLsbD _ _ hk, Bool.false_eq_true, false_and, or_false]
  split
  · exact xnor _ _ _ _ _ _
  · rfl

/-- The XOR of `start` and the columns of the bits of `x` below `n`. -/
def xorColumns (start : BitVec 15) (columns : List (BitVec 15)) (x : BitVec 15) : Nat → BitVec 15
  | 0 => start
  | n + 1 => xorColumns start columns x n ^^^ if x.getLsbD n then columns.getD n 0#15 else 0#15

/-- An affine map by its value at 0 and by what each single bit changes in it. -/
structure AffineTable where
  start : BitVec 15
  columns : List (BitVec 15)

/-- The map of a table. -/
def AffineTable.apply (t : AffineTable) (x : BitVec 15) : BitVec 15 := xorColumns t.start t.columns x 15

/-- The table of a map. -/
def AffineTable.of (f : BitVec 15 → BitVec 15) : AffineTable :=
  ⟨f 0#15, (List.range 15).map fun i => f (1#15 <<< i) ^^^ f 0#15⟩

/-- The bits of `x` below `n`. -/
def lowBits (x : BitVec 15) (n : Nat) : BitVec 15 := (x.setWidth n).setWidth 15

/-- One bit more is an XOR with that bit. -/
theorem lowBits_succ (x : BitVec 15) (n : Nat) :
    lowBits x (n + 1) = lowBits x n ^^^ (if x.getLsbD n then 1#15 <<< n else 0#15) := by
  apply BitVec.eq_of_getLsbD_eq
  intro k hk
  rw [BitVec.getLsbD_xor, getLsbD_if_bit _ _ hk]
  simp only [lowBits, BitVec.getLsbD_setWidth, hk, decide_true, Bool.true_and]
  rcases Nat.lt_trichotomy k n with below | rfl | above
  · simp [below, Nat.ne_of_lt below, Nat.lt_succ_of_lt below]
  · simp
  · simp [Nat.ne_of_gt above, Nat.lt_asymm above, Nat.not_lt.mpr (Nat.succ_le_of_lt above)]

/-- The first `n` columns of an affine map's table make it up on words of `n` bits. -/
theorem IsAffine.xorColumns_of {f : BitVec 15 → BitVec 15} (h : IsAffine f) (x : BitVec 15) {n : Nat} (hn : n ≤ 15) :
    xorColumns (AffineTable.of f).start (AffineTable.of f).columns x n = f (lowBits x n) := by
  induction n with
  | zero =>
    rw [xorColumns, lowBits, BitVec.of_length_zero (x := x.setWidth 0)]
    rfl
  | succ n ih =>
    have column : (AffineTable.of f).columns.getD n 0#15 = f (1#15 <<< n) ^^^ f 0#15 := by
      simp [AffineTable.of, Nat.lt_of_succ_le hn]
    rw [xorColumns, ih (Nat.le_of_succ_le hn), column, lowBits_succ]
    split
    · rw [← BitVec.xor_assoc, ← h, BitVec.xor_zero]
    · rw [BitVec.xor_zero, BitVec.xor_zero]

/-- The table of an affine map is the map. -/
theorem IsAffine.apply_of {f : BitVec 15 → BitVec 15} (h : IsAffine f) (x : BitVec 15) :
    (AffineTable.of f).apply x = f x := by
  refine (h.xorColumns_of x (Nat.le_refl 15)).trans ?_
  rw [lowBits, BitVec.setWidth_eq, BitVec.setWidth_eq]

/-- The table of the wide step run `2 ^ k` times. -/
def lfsrJump : Nat → AffineTable
  | 0 => .of (lfsrNext false)
  | k + 1 => .of ((lfsrJump k).apply ∘ (lfsrJump k).apply)

/-- Each table is that of an affine map: squaring doubles the steps. -/
theorem lfsrJump_apply (k : Nat) : IsAffine (lfsrJump k).apply ∧ (lfsrJump k).apply = (lfsrNext false)^[2 ^ k] := by
  induction k with
  | zero =>
    have e : (lfsrJump 0).apply = lfsrNext false := funext isAffine_lfsrNext.apply_of
    exact ⟨e ▸ isAffine_lfsrNext, e⟩
  | succ k ih =>
    obtain ⟨affine, e⟩ := ih
    have e' : (lfsrJump (k + 1)).apply = (lfsrJump k).apply ∘ (lfsrJump k).apply :=
      funext (affine.comp affine).apply_of
    refine ⟨e' ▸ affine.comp affine, ?_⟩
    rw [e', e, ← Function.iterate_add, ← Nat.two_mul, Nat.pow_succ']

/-- Jumps by the powers of two of a list, one after the other. -/
def lfsrJumps (ks : List Nat) (x : BitVec 15) : BitVec 15 := ks.foldr (fun k y => (lfsrJump k).apply y) x

/-- They run the step as often as the powers add up to. -/
theorem lfsrJumps_eq (ks : List Nat) (x : BitVec 15) :
    lfsrJumps ks x = (lfsrNext false)^[(ks.map (2 ^ ·)).sum] x := by
  induction ks with
  | nil => rfl
  | cons k ks ih =>
    rw [List.map_cons, List.sum_cons, Function.iterate_add_apply, ← ih, ← (lfsrJump_apply k).2]
    rfl

theorem lfsrRun_eq_iterate (narrow : Bool) (n : Nat) : lfsrRun narrow n = (lfsrNext narrow)^[n] 0#15 := by
  induction n with
  | zero => rfl
  | succ n ih => rw [lfsrRun, ih, Function.iterate_succ_apply']

/-- The period is `n` where `n` steps lead back and no `n / p` of them do, for a prime `p` that divides `n`. -/
theorem minimalPeriod_eq_of_div_prime {α : Type*} {f : α → α} {x : α} {n : Nat}
    (back : Function.IsPeriodicPt f n x)
    (sooner : ∀ p, p.Prime → p ∣ n → ¬ Function.IsPeriodicPt f (n / p) x) : Function.minimalPeriod f x = n := by
  obtain ⟨k, hk⟩ := back.minimalPeriod_dvd
  by_contra ne
  have k_ne_one : k ≠ 1 := by
    rintro rfl
    exact ne (by rw [hk, Nat.mul_one])
  have divides : k.minFac ∣ k := k.minFac_dvd
  refine sooner k.minFac (Nat.minFac_prime k_ne_one) (hk ▸ divides.mul_left _) ?_
  rw [hk, Nat.mul_div_assoc _ divides]
  exact (Function.isPeriodicPt_minimalPeriod f x).mul_const _

theorem prime_dvd_32767 {p : Nat} (prime : p.Prime) (h : p ∣ 32767) : p = 7 ∨ p = 31 ∨ p = 151 := by
  rw [show 32767 = 7 * (31 * 151) from rfl, prime.dvd_mul, prime.dvd_mul,
    Nat.prime_dvd_prime_iff_eq prime (by norm_num), Nat.prime_dvd_prime_iff_eq prime (by norm_num),
    Nat.prime_dvd_prime_iff_eq prime (by norm_num)] at h
  exact h

/-- The wide run over a number of steps given by its binary digits. -/
theorem lfsrRun_eq_jumps (ks : List Nat) : lfsrRun false (ks.map (2 ^ ·)).sum = lfsrJumps ks 0#15 := by
  rw [lfsrRun_eq_iterate, lfsrJumps_eq]

/-- The wide mode's period from zero: the 32767 steps lead back to it, and no seventh, 31st or 151st part of them
does. -/
theorem lfsrRun_wide_period : Function.minimalPeriod (lfsrNext false) 0#15 = 32767 := by
  have back : lfsrRun false 32767 = 0#15 := (lfsrRun_eq_jumps (List.range 15)).trans (by decide +kernel)
  have by7 : lfsrRun false 4681 ≠ 0#15 := (lfsrRun_eq_jumps [0, 3, 6, 9, 12]).trans_ne (by decide +kernel)
  have by31 : lfsrRun false 1057 ≠ 0#15 := (lfsrRun_eq_jumps [0, 5, 10]).trans_ne (by decide +kernel)
  have by151 : lfsrRun false 217 ≠ 0#15 := (lfsrRun_eq_jumps [0, 3, 4, 6, 7]).trans_ne (by decide +kernel)
  rw [lfsrRun_eq_iterate] at back by7 by31 by151
  refine minimalPeriod_eq_of_div_prime back fun p prime divides => ?_
  rcases prime_dvd_32767 prime divides with rfl | rfl | rfl
  · exact by7
  · exact by31
  · exact by151

theorem lfsrRun_add (narrow : Bool) (m n : Nat) :
    lfsrRun narrow (m + n) = (lfsrNext narrow)^[m] (lfsrRun narrow n) := by
  rw [lfsrRun_eq_iterate, lfsrRun_eq_iterate, Function.iterate_add_apply]

/-- Narrow mode leads from its first state back to it after 127 steps, a prime number of them. -/
theorem lfsrRun_narrow_period : Function.minimalPeriod (lfsrNext true) (lfsrRun true 1) = 127 := by
  have prime : Fact (Nat.Prime 127) := ⟨by norm_num⟩
  have back : lfsrRun true (127 + 1) = lfsrRun true 1 := by decide +kernel
  rw [lfsrRun_add] at back
  exact Function.minimalPeriod_eq_prime back (by decide)

/-- From its first state on, narrow mode repeats every 127 steps. -/
theorem lfsrRun_narrow_add {n : Nat} (h : 1 ≤ n) : lfsrRun true (n + 127) = lfsrRun true n := by
  obtain ⟨m, rfl⟩ := Nat.exists_eq_add_of_le' h
  have back : (lfsrNext true)^[127] (lfsrRun true 1) = lfsrRun true 1 :=
    lfsrRun_narrow_period ▸ Function.isPeriodicPt_minimalPeriod _ _
  rw [Nat.add_assoc, Nat.add_comm 1 127, lfsrRun_add, lfsrRun_add, back, lfsrRun_add]

/-- Narrow mode never comes back to zero: 127 steps later it would be there again, and from zero it is not. -/
theorem lfsrRun_narrow_ne_zero {n : Nat} (h : 1 ≤ n) : lfsrRun true n ≠ 0#15 := by
  intro zero
  have again : lfsrRun true 127 = 0#15 := by
    rw [← zero, ← lfsrRun_narrow_add h, Nat.add_comm, lfsrRun_add, zero, lfsrRun_eq_iterate]
  exact absurd again (by decide +kernel)

/-- Settles O48: the two periods, and what is within one of them. -/
theorem lfsrPeriods : Obligations.LfsrPeriods := by
  refine ⟨?back, fun n pos lt zero => ?sooner, rfl, fun n => lfsrRun_narrow_add, fun n pos lt => ?narrow,
    fun n => lfsrRun_narrow_ne_zero, by decide +kernel, by decide +kernel⟩
  case back =>
    rw [lfsrRun_eq_iterate, ← lfsrRun_wide_period]
    exact Function.isPeriodicPt_minimalPeriod _ _
  case sooner =>
    rw [← lfsrRun_wide_period] at lt
    rw [lfsrRun_eq_iterate] at zero
    exact Function.not_isPeriodicPt_of_pos_of_lt_minimalPeriod pos.ne' lt zero
  case narrow =>
    rw [← lfsrRun_narrow_period] at lt
    rw [Nat.add_comm, lfsrRun_add]
    exact Function.not_isPeriodicPt_of_pos_of_lt_minimalPeriod pos.ne' lt

end Sys2Proof.Machine
end

section
/-! PROOFS. The decoder against the encoder, both ways. -/

namespace Sys2Proof.Machine

open Sys2Proof Sys2Proof.Laws

/-- Every instruction meets the encoding laws. A row with a 16-bit operand needs its two bytes put together again; in
every other row each byte decodes as it stands. -/
theorem roundTrip_statement (i : Instr) : RoundTrip.Statement i := by
  cases i with
  | cb_prefix op2 => exact RoundTrip.cb_prefix op2
  | ld_bc_d16 nn => exact RoundTrip.ld_bc_d16 nn
  | ld_de_d16 nn => exact RoundTrip.ld_de_d16 nn
  | ld_hl_d16 nn => exact RoundTrip.ld_hl_d16 nn
  | ld_sp_d16 nn => exact RoundTrip.ld_sp_d16 nn
  | ld_ma16_sp nn => exact RoundTrip.ld_ma16_sp nn
  | ld_ma16_a nn => exact RoundTrip.ld_ma16_a nn
  | ld_a_ma16 nn => exact RoundTrip.ld_a_ma16 nn
  | jp_a16 nn => exact RoundTrip.jp_a16 nn
  | jp_nz_a16 nn => exact RoundTrip.jp_nz_a16 nn
  | jp_z_a16 nn => exact RoundTrip.jp_z_a16 nn
  | jp_nc_a16 nn => exact RoundTrip.jp_nc_a16 nn
  | jp_c_a16 nn => exact RoundTrip.jp_c_a16 nn
  | call_a16 nn => exact RoundTrip.call_a16 nn
  | call_nz_a16 nn => exact RoundTrip.call_nz_a16 nn
  | call_z_a16 nn => exact RoundTrip.call_z_a16 nn
  | call_nc_a16 nn => exact RoundTrip.call_nc_a16 nn
  | call_c_a16 nn => exact RoundTrip.call_c_a16 nn
  | _ => exact fun _ _ => ⟨rfl, rfl⟩

/-- What a whole instruction encodes to decodes to it, whatever follows. -/
theorem decode_encode_append {i : Instr} (whole : i.wellFormed = true) (rest : List Byte) :
    decode (encode i ++ rest) = .ok (i, rest) := (roundTrip_statement i whole rest).1

/-- Settles O26: one direction instruction by instruction, the other byte by byte. -/
theorem decodeEncodeAgree : Obligations.DecodeEncodeAgree :=
  ⟨fun _ rest whole => decode_encode_append whole rest, fun _ _ _ => encode_of_decode⟩

end Sys2Proof.Machine
end

section
/-! PROOFS. Reset and the host's operations: the values after `init`, what `start_subsong` writes, and the invariants
under each operation. -/

namespace Sys2Proof.Machine

open Sys2Proof

/-! ### The values after `init` -/

/-- The impulse buffer and the PCM buffer are clear after `init`, whatever their size (61_sound.md R425). -/
theorem sound_reset_buffers_zero (frames : Option Nat) :
    ∀ x ∈ (Sound.reset frames).impL ++ (Sound.reset frames).impR ++ (Sound.reset frames).out, x = 0 := by
  cases frames <;> simp [Sound.reset, impulseZeros, pcmZeros]

/-- A state made of the reset values, with any ROM image and any buffer size, has the values of the spec
(10_state.md R52, 61_sound.md R425). -/
theorem isInitState_of_reset {s : State} {rom : Memory} {banks : Nat} {frames : Option Nat} (cpu : s.cpu = Cpu.reset)
    (bus : s.bus = Bus.reset rom banks) (timers : s.timers = Timers.reset) (snd : s.snd = Sound.reset frames)
    (session : s.sessionCycles = 0) : IsInitState s := by
  have ram : ∀ a, IsRam a → s.peek a = 0#8 := fun a ha => by
    rw [peek_ram s ha, bus]
    rfl
  have sound : ∀ a, IsSoundReg a → s.peek a = 0#8 := fun a ha => by
    rw [peek_sound s ha, snd]
    rfl
  have regs : ∀ r, s.reg8 r = 0#8 := fun r => by
    cases r <;> simp only [State.reg8, cpu] <;> rfl
  have pulse : ∀ p : Pulse, p = Pulse.reset → p.voice.divTc = 2048 ∧ p.voice.divCtr = 8192 ∧ p.dutyTc = 1 ∧
      p.voice.running = false ∧ p.voice.volume = 0 ∧ p.voice.len = 0 := by
    rintro p rfl
    exact ⟨rfl, rfl, rfl, rfl, rfl, rfl⟩
  unfold IsInitState
  rw [cpu, bus, timers, snd, session]
  exact ⟨regs, rfl, rfl, rfl, rfl, rfl, rfl, rfl, rfl, rfl, rfl, ram, sound, rfl, rfl, rfl, rfl, rfl, rfl, rfl, rfl,
    pulse, rfl, rfl, rfl, rfl, rfl, rfl, rfl, rfl, rfl, rfl, rfl, rfl, sound_reset_buffers_zero frames⟩

theorem isInitState_reset : IsInitState State.reset := isInitState_of_reset rfl rfl rfl rfl rfl

theorem isInitState_initialised (s : State) (rom : List Byte) (size : Nat) : IsInitState (s.initialised rom size) :=
  isInitState_of_reset rfl rfl rfl rfl rfl

theorem romSizeOk_iff (rom : List Byte) (size : Nat) :
    romSizeOk rom size = true ↔ 0 < size ∧ size % 16384 = 0 ∧ rom.length = size := by
  show _ ↔ 0 < size ∧ size % Config.bankSize = 0 ∧ rom.length = size
  simp [romSizeOk, and_assoc]

/-- Settles O41: the state `init` leaves, field by field, and the refusal where its size check fails. -/
theorem initResetsEverything : Obligations.InitResetsEverything := by
  refine ⟨fun rom size s => ⟨fun ok => ?taken, fun bad => ?refused⟩, isInitState_reset⟩
  case taken =>
    have image : ∀ k, k < size → Memory.read (Memory.ofBytes 0 rom) k = rom.getD k 0#8 := fun k _ =>
      (congrArg _ (Nat.zero_add k)).symm.trans (Memory.read_ofBytes 0 k rom)
    exact ⟨s.initialised rom size, if_pos ((romSizeOk_iff rom size).mpr ok), isInitState_initialised s rom size, rfl,
      image, Memory.ofBytes_wf 0 rom, rfl, rfl, rfl, rfl, rfl, rfl, rfl, rfl, rfl, rfl, rfl⟩
  case refused => exact if_neg (mt (romSizeOk_iff rom size).mp bad)

/-! ### `start_subsong` -/

/-- A difference of addresses wraps modulo 2^16 (70_reset_and_hazards.md R522). -/
theorem sub_0x70_eq_ofInt (load : Word) : load - 0x70#16 = BitVec.ofInt 16 (load.toNat - 0x70) := by
  apply BitVec.eq_of_toNat_eq
  rw [BitVec.toNat_sub, BitVec.toNat_ofInt, BitVec.toNat_ofNat]
  omega

/-- Settles O42, by the laws of the four register writes it is made of. -/
theorem startSubsong_writes : Obligations.StartSubsong := by
  intro stub load entry stack index s
  have regs : RegsSameBut [.a, .h, .l] s (startSubsong stub load entry stack index s) := by
    intro r hr
    simp only [List.mem_cons, List.not_mem_nil, or_false, not_or] at hr
    obtain ⟨a, h, l⟩ := hr
    simp [startSubsong, a, h, l]
  have hl : (startSubsong stub load entry stack index s).hl = BitVec.ofInt 16 (load.toNat - 0x70) := by
    simp [startSubsong, sub_0x70_eq_ofInt]
  exact ⟨rfl, rfl, hl, rfl, regs, rfl, ⟨rfl, rfl, rfl⟩, .refl s, rfl⟩

/-! ### The invariants under the host's operations -/

/-- A bank is selected after `init`: bank 1, or bank 0 of an image of one bank. -/
theorem coreInv_initialised (s : State) {rom : List Byte} {size : Nat} (banks : 0 < size / Config.bankSize) :
    CoreInv (s.initialised rom size) :=
  { coreInv_reset with
    romCanonical := Memory.ofBytes_wf 0 rom
    bankInRange := show min 1 (size / Config.bankSize - 1) < size / Config.bankSize by omega }

/-- With a cleared impulse buffer the balance holds at the reset values, for a buffer of any size. -/
theorem levelConserved_sound_reset (frames : Option Nat) : LevelConserved (Sound.reset frames) := by
  have zero : (impulseZeros frames).sum = 0 := by cases frames <;> simp [impulseZeros]
  simp [LevelConserved, Sound.reset, zero]

/-- `init` answers one state, and for a size that holds a bank. -/
theorem hostInit_eq_next {rom : List Byte} {size : Nat} {s t : State} (h : hostInit rom size s = .next t) :
    t = s.initialised rom size ∧ 0 < size / Config.bankSize := by
  unfold hostInit at h
  split at h
  · next ok =>
    obtain ⟨pos, whole, -⟩ := (romSizeOk_iff rom size).mp ok
    cases h
    exact ⟨rfl, Nat.div_pos (by unfold Config.bankSize; omega) (by decide)⟩
  · cases h

/-- `start_subsong` is made of writes of the register file. -/
theorem micro_startSubsong (stub load entry stack : Word) (index : Byte) (s : State) :
    Micro s (startSubsong stub load entry stack index s) :=
  (((Micro.setPc s _).trans (.setSp _ _)).trans (.setHl _ _)).trans (.setReg8 _ _ _)

/-- A new buffer's position is inside it, and both its sides and the PCM buffer are clear. -/
theorem buffersFit_setOutputBuffer {frames : Nat} (s : State) (pos : 0 < frames) :
    BuffersFit frames (setOutputBuffer frames s).snd :=
  ⟨Nat.mul_pos pos (by decide), List.length_replicate, List.length_replicate, rfl⟩

/-- Settles O58, operation by operation. -/
theorem hostOperationsKeepInvariants : Obligations.HostOperationsKeepInvariants := by
  intro s core sound
  refine ⟨fun rom size t h => ?init, fun stub load entry stack index => ?subsong, fun frames => ?buffer,
    fun rate => ⟨{ core with }, sound⟩, fun rate frames rpos rlt fpos => if_pos ⟨rpos, rlt, fpos⟩,
    fun mode table => ⟨{ core with }, rfl, rfl, rfl⟩⟩
  case init =>
    obtain ⟨rfl, banks⟩ := hostInit_eq_next h
    exact ⟨coreInv_initialised s banks, soundInv_reset _, levelConserved_sound_reset _⟩
  case subsong => exact ⟨(micro_startSubsong stub load entry stack index s).coreInv core, sound⟩
  case buffer => exact ⟨{ core with }, { sound with }, buffersFit_setOutputBuffer s⟩

end Sys2Proof.Machine
end
